-- ==== Sys2Proof/Word.lean ====
section
/-!
DEFINITION. The word types of the block (00_scope.md R8, R9; 30_encoding.md R67, R77).
-/

namespace Sys2Proof

/-- A byte, the width of every bus access (R57, R58). -/
abbrev Byte := BitVec 8

/-- A bus address, 16 bits (R8, R50). -/
abbrev Addr := BitVec 16

/-- A request word, 19 bits: `op[18:16]` and `addr[15:0]` (R67). -/
abbrev ReqWord := BitVec 19

/-- A 2-bit pixel color index (R77, R110). -/
abbrev ColorIndex := BitVec 2

/-- A framebuffer pixel: the four bytes R, G, B, A (R54, R77). -/
structure Rgba where
  r : Byte
  g : Byte
  b : Byte
  a : Byte
  deriving DecidableEq, Repr, Inhabited

end Sys2Proof
end

