-- ==== Sys2Proof/Config.lean ====
section
/-!
DEFINITION. What an implementation fixes for the lifetime of the block (00_scope.md R6; 42_color_resolver.md R120;
44_host_interface.md R172). All three parameters are left open: `Config.given` has no body that a proof can see.
-/

namespace Sys2Proof

/-- The color scheme input, "fixed for the instance's lifetime" (R3, R172). -/
inductive ColorMode where
  | monochrome
  | enhanced
  deriving DecidableEq, Repr, Inhabited

/-- The configuration parameters of R6. -/
structure Config where
  /-- `COLOR_MODE` (R3): it selects the VRAM bank the bus window addresses and nothing else (R35, R172). -/
  colorMode : ColorMode
  /-- `MONO_SHADE` (R120): shade 0 is the lightest, shade 3 the darkest. -/
  monoShade : BitVec 2 → Rgba
  /-- `UNUSED_BIT_READ` (R23): the value every unused register bit reads as. -/
  unusedBitRead : BitVec 1
  deriving Inhabited

/-- The configuration of the block at hand. An opaque constant: every theorem about it holds for every configuration
(log entry 4, safe). -/
opaque Config.given : Config

end Sys2Proof
end

