-- ==== Sys2Proof/Syntax.lean ====
section
/-!
DEFINITION. The operations of the block (30_encoding.md R66, R72; spec/opcode_table.json): one constructor of `Instr` for
each of the 44 mnemonics, the raw request that spells one, and the names the opcode map is written in.
-/

namespace Sys2Proof

/-- A raw request (R67): the 19-bit word, and the operand outside it (d, n or b; R70). A kind that names no operand does
not look at it (log entry 5). -/
structure Request where
  word    : ReqWord
  operand : Nat
  deriving DecidableEq, Repr, Inhabited

/-- The 17 memory-mapped registers (10_state.md R24). -/
inductive Reg where
  | lcdc | stat | scy | scx | ly | lyc | dma | bgp | obp0 | obp1 | wy | wx | vbk | bcps | bcpd | ocps | ocpd
  deriving DecidableEq, Repr

/-- What a bus address selects (R55, R71). -/
inductive Target where
  | vram
  | oam
  | reg (r : Reg)
  | unmapped
  deriving DecidableEq, Repr

/-- The 44 mnemonics of the opcode map (R72): `READ_<target>`, `WRITE_<target>` and the four non-bus operations. -/
inductive Mnemonic where
  | read (t : Target)
  | write (t : Target)
  | tick
  | ackVblank
  | ackStat
  | setDma
  deriving DecidableEq, Repr

/-- The operations (R66, R72). `a` is the bus address and `d` the byte written (R70). -/
inductive Instr where
  | readVram (a : Addr)
  | writeVram (a : Addr) (d : Byte)
  | readOam (a : Addr)
  | writeOam (a : Addr) (d : Byte)
  | readLcdc
  | writeLcdc (d : Byte)
  | readStat
  | writeStat (d : Byte)
  | readScy
  | writeScy (d : Byte)
  | readScx
  | writeScx (d : Byte)
  | readLy
  | writeLy (d : Byte)
  | readLyc
  | writeLyc (d : Byte)
  | readDma
  | writeDma (d : Byte)
  | readBgp
  | writeBgp (d : Byte)
  | readObp0
  | writeObp0 (d : Byte)
  | readObp1
  | writeObp1 (d : Byte)
  | readWy
  | writeWy (d : Byte)
  | readWx
  | writeWx (d : Byte)
  | readVbk
  | writeVbk (d : Byte)
  | readBcps
  | writeBcps (d : Byte)
  | readBcpd
  | writeBcpd (d : Byte)
  | readOcps
  | writeOcps (d : Byte)
  | readOcpd
  | writeOcpd (d : Byte)
  | readUnmapped (a : Addr)
  | writeUnmapped (a : Addr) (d : Byte)
  | tick (n : Nat)
  | ackVblank
  | ackStat
  | setDma (b : Bool)
  deriving DecidableEq, Repr

/-- The pseudo-instruction `NOP`, which stands for `T 0` (R76). -/
abbrev Instr.nop : Instr := .tick 0

end Sys2Proof
end

