-- ==== Sys2Proof/WellFormed.lean ====
section
/-!
DEFINITION. Which `Instr` terms are operations of the block: the address of a bus operation lies in the range its
mnemonic names (20_memory.md R51, R52, R55; 30_encoding.md R71). Every other operand is in range by its type (R69).
-/

namespace Sys2Proof

/-- The VRAM window, 0x8000–0x9FFF (R51). -/
def inVramWindow (a : Addr) : Bool := 0x8000#16 ≤ a && a ≤ 0x9FFF#16

/-- The OAM window, 0xFE00–0xFE9F (R52). -/
def inOamWindow (a : Addr) : Bool := 0xFE00#16 ≤ a && a ≤ 0xFE9F#16

/-- The register addresses of R55: 0xFF40–0xFF4B, 0xFF4F and 0xFF68–0xFF6B. -/
def isRegisterAddress (a : Addr) : Bool :=
  (0xFF40#16 ≤ a && a ≤ 0xFF4B#16) || a == 0xFF4F#16 || (0xFF68#16 ≤ a && a ≤ 0xFF6B#16)

/-- An address the block maps to nothing (R55): an access to it faults. -/
def isUnmapped (a : Addr) : Bool := !(inVramWindow a || inOamWindow a || isRegisterAddress a)

/-- Well-formedness of an operation: its address belongs to its mnemonic. -/
def Instr.wellFormed : Instr → Bool
  | .readVram a => inVramWindow a
  | .writeVram a _ => inVramWindow a
  | .readOam a => inOamWindow a
  | .writeOam a _ => inOamWindow a
  | .readLcdc => true
  | .writeLcdc _ => true
  | .readStat => true
  | .writeStat _ => true
  | .readScy => true
  | .writeScy _ => true
  | .readScx => true
  | .writeScx _ => true
  | .readLy => true
  | .writeLy _ => true
  | .readLyc => true
  | .writeLyc _ => true
  | .readDma => true
  | .writeDma _ => true
  | .readBgp => true
  | .writeBgp _ => true
  | .readObp0 => true
  | .writeObp0 _ => true
  | .readObp1 => true
  | .writeObp1 _ => true
  | .readWy => true
  | .writeWy _ => true
  | .readWx => true
  | .writeWx _ => true
  | .readVbk => true
  | .writeVbk _ => true
  | .readBcps => true
  | .writeBcps _ => true
  | .readBcpd => true
  | .writeBcpd _ => true
  | .readOcps => true
  | .writeOcps _ => true
  | .readOcpd => true
  | .writeOcpd _ => true
  | .readUnmapped a => isUnmapped a
  | .writeUnmapped a _ => isUnmapped a
  | .tick _ => true
  | .ackVblank => true
  | .ackStat => true
  | .setDma _ => true

end Sys2Proof
end

