-- ==== Sys2Proof/Decode.lean ====
section
/-!
DEFINITION. The decoder and the encoder of request words (30_encoding.md R67 to R74): the register address map, the decode
of R71, the opcode map of R72 as data, and `encode`, written from the same tables.
-/

namespace Sys2Proof

/-- Why the decoder refuses a request (R69, R73). A refused request spells no operation and takes no step. -/
inductive DecodeError where
  /-- `op` is 0b110 or 0b111 (R68, R73). -/
  | reservedOp (op : BitVec 3)
  /-- The address field of a kind other than READ and WRITE is not 0 (R69, R73). -/
  | nonzeroAddress (op : BitVec 3) (addr : Addr)
  /-- The operand does not have its type: d ≥ 256 or b ∉ {0, 1} (R69). -/
  | operandOutOfRange (op : BitVec 3) (operand : Nat)
  deriving DecidableEq, Repr

/-- The `op` field, bits 18:16 (R67). -/
def opField (w : ReqWord) : BitVec 3 := w.extractLsb' 16 3

/-- The `addr` field, bits 15:0 (R67). -/
def addrField (w : ReqWord) : Addr := w.extractLsb' 0 16

/-- The register address map (10_state.md R24). -/
def registerMap : List (Addr × Reg) :=
  [(0xFF40#16, .lcdc), (0xFF41#16, .stat), (0xFF42#16, .scy), (0xFF43#16, .scx), (0xFF44#16, .ly), (0xFF45#16, .lyc),
   (0xFF46#16, .dma), (0xFF47#16, .bgp), (0xFF48#16, .obp0), (0xFF49#16, .obp1), (0xFF4A#16, .wy), (0xFF4B#16, .wx),
   (0xFF4F#16, .vbk), (0xFF68#16, .bcps), (0xFF69#16, .bcpd), (0xFF6A#16, .ocps), (0xFF6B#16, .ocpd)]

/-- What a bus address selects, in the order of R71: an exact register address, then the VRAM window, then the OAM
window, and otherwise the unmapped operation. -/
def targetOf (a : Addr) : Target :=
  match registerMap.lookup a with
  | some r => .reg r
  | none => if inVramWindow a then .vram else if inOamWindow a then .oam else .unmapped

/-- The mnemonic a request word selects (R68, R69, R71). -/
def select (w : ReqWord) : Except DecodeError Mnemonic :=
  let op := opField w
  let addr := addrField w
  let nonBus (m : Mnemonic) : Except DecodeError Mnemonic :=
    if addr = 0#16 then .ok m else .error (.nonzeroAddress op addr)
  match op.toNat with
  | 0 => .ok (.read (targetOf addr))
  | 1 => .ok (.write (targetOf addr))
  | 2 => nonBus .tick
  | 3 => nonBus .ackVblank
  | 4 => nonBus .ackStat
  | 5 => nonBus .setDma
  | _ => .error (.reservedOp op)

/-- The READ operation of a target (R72). -/
def readInstr (a : Addr) : Target → Instr
  | .vram => .readVram a
  | .oam => .readOam a
  | .reg .lcdc => .readLcdc
  | .reg .stat => .readStat
  | .reg .scy => .readScy
  | .reg .scx => .readScx
  | .reg .ly => .readLy
  | .reg .lyc => .readLyc
  | .reg .dma => .readDma
  | .reg .bgp => .readBgp
  | .reg .obp0 => .readObp0
  | .reg .obp1 => .readObp1
  | .reg .wy => .readWy
  | .reg .wx => .readWx
  | .reg .vbk => .readVbk
  | .reg .bcps => .readBcps
  | .reg .bcpd => .readBcpd
  | .reg .ocps => .readOcps
  | .reg .ocpd => .readOcpd
  | .unmapped => .readUnmapped a

/-- The WRITE operation of a target, with the byte `d` (R72). -/
def writeInstr (a : Addr) (d : Byte) : Target → Instr
  | .vram => .writeVram a d
  | .oam => .writeOam a d
  | .reg .lcdc => .writeLcdc d
  | .reg .stat => .writeStat d
  | .reg .scy => .writeScy d
  | .reg .scx => .writeScx d
  | .reg .ly => .writeLy d
  | .reg .lyc => .writeLyc d
  | .reg .dma => .writeDma d
  | .reg .bgp => .writeBgp d
  | .reg .obp0 => .writeObp0 d
  | .reg .obp1 => .writeObp1 d
  | .reg .wy => .writeWy d
  | .reg .wx => .writeWx d
  | .reg .vbk => .writeVbk d
  | .reg .bcps => .writeBcps d
  | .reg .bcpd => .writeBcpd d
  | .reg .ocps => .writeOcps d
  | .reg .ocpd => .writeOcpd d
  | .unmapped => .writeUnmapped a d

/-- Joins a mnemonic with its operands (R70), refusing an operand outside its type (R69). -/
def assemble (w : ReqWord) (operand : Nat) : Mnemonic → Except DecodeError Instr
  | .read t => .ok (readInstr (addrField w) t)
  | .write t =>
    if operand < 256 then .ok (writeInstr (addrField w) (BitVec.ofNat 8 operand) t)
    else .error (.operandOutOfRange (opField w) operand)
  | .tick => .ok (.tick operand)
  | .ackVblank => .ok .ackVblank
  | .ackStat => .ok .ackStat
  | .setDma =>
    if operand < 2 then .ok (.setDma (operand == 1))
    else .error (.operandOutOfRange (opField w) operand)

/-- The decoder (R71): total on every request; a request that is not well formed is refused by name (R69, R73). -/
def decode (r : Request) : Except DecodeError Instr :=
  match select r.word with
  | .error e => .error e
  | .ok m => assemble r.word r.operand m

/-- The mnemonic of an operation (R72). -/
def Instr.mnemonic : Instr → Mnemonic
  | .readVram _ => .read .vram
  | .writeVram _ _ => .write .vram
  | .readOam _ => .read .oam
  | .writeOam _ _ => .write .oam
  | .readLcdc => .read (.reg .lcdc)
  | .writeLcdc _ => .write (.reg .lcdc)
  | .readStat => .read (.reg .stat)
  | .writeStat _ => .write (.reg .stat)
  | .readScy => .read (.reg .scy)
  | .writeScy _ => .write (.reg .scy)
  | .readScx => .read (.reg .scx)
  | .writeScx _ => .write (.reg .scx)
  | .readLy => .read (.reg .ly)
  | .writeLy _ => .write (.reg .ly)
  | .readLyc => .read (.reg .lyc)
  | .writeLyc _ => .write (.reg .lyc)
  | .readDma => .read (.reg .dma)
  | .writeDma _ => .write (.reg .dma)
  | .readBgp => .read (.reg .bgp)
  | .writeBgp _ => .write (.reg .bgp)
  | .readObp0 => .read (.reg .obp0)
  | .writeObp0 _ => .write (.reg .obp0)
  | .readObp1 => .read (.reg .obp1)
  | .writeObp1 _ => .write (.reg .obp1)
  | .readWy => .read (.reg .wy)
  | .writeWy _ => .write (.reg .wy)
  | .readWx => .read (.reg .wx)
  | .writeWx _ => .write (.reg .wx)
  | .readVbk => .read (.reg .vbk)
  | .writeVbk _ => .write (.reg .vbk)
  | .readBcps => .read (.reg .bcps)
  | .writeBcps _ => .write (.reg .bcps)
  | .readBcpd => .read (.reg .bcpd)
  | .writeBcpd _ => .write (.reg .bcpd)
  | .readOcps => .read (.reg .ocps)
  | .writeOcps _ => .write (.reg .ocps)
  | .readOcpd => .read (.reg .ocpd)
  | .writeOcpd _ => .write (.reg .ocpd)
  | .readUnmapped _ => .read .unmapped
  | .writeUnmapped _ _ => .write .unmapped
  | .tick _ => .tick
  | .ackVblank => .ackVblank
  | .ackStat => .ackStat
  | .setDma _ => .setDma

/-- The bus address of a register (R24). -/
def Reg.address : Reg → Addr
  | .lcdc => 0xFF40#16
  | .stat => 0xFF41#16
  | .scy => 0xFF42#16
  | .scx => 0xFF43#16
  | .ly => 0xFF44#16
  | .lyc => 0xFF45#16
  | .dma => 0xFF46#16
  | .bgp => 0xFF47#16
  | .obp0 => 0xFF48#16
  | .obp1 => 0xFF49#16
  | .wy => 0xFF4A#16
  | .wx => 0xFF4B#16
  | .vbk => 0xFF4F#16
  | .bcps => 0xFF68#16
  | .bcpd => 0xFF69#16
  | .ocps => 0xFF6A#16
  | .ocpd => 0xFF6B#16

/-- The address operand that an operation carries in its own syntax (0 where it carries none). -/
def Instr.ownAddress : Instr → Addr
  | .readVram a | .readOam a | .readUnmapped a => a
  | .writeVram a _ | .writeOam a _ | .writeUnmapped a _ => a
  | _ => 0#16

/-- The address field a mnemonic's word holds: the register's address, the operation's own, or 0 (R69). -/
def Mnemonic.address (own : Addr) : Mnemonic → Addr
  | .read (.reg r) | .write (.reg r) => r.address
  | .read _ | .write _ => own
  | _ => 0#16

/-- The `op` field of a mnemonic (R68). -/
def Mnemonic.op : Mnemonic → BitVec 3
  | .read _ => 0b000#3
  | .write _ => 0b001#3
  | .tick => 0b010#3
  | .ackVblank => 0b011#3
  | .ackStat => 0b100#3
  | .setDma => 0b101#3

/-- The kind names an operand outside the word (R67): d for WRITE, n for TICK, b for SET_DMA. -/
def Mnemonic.namesOperand : Mnemonic → Bool
  | .read _ => false
  | .write _ => true
  | .tick => true
  | .ackVblank => false
  | .ackStat => false
  | .setDma => true

/-- A request is well formed (R69): the op is not reserved, the address is 0 for a kind other than READ and WRITE, and the
operand has its type. -/
def Request.wellFormed (r : Request) : Bool :=
  (opField r.word).toNat ≤ 5 && ((opField r.word).toNat ≤ 1 || addrField r.word == 0#16) &&
    ((opField r.word).toNat != 1 || decide (r.operand < 256)) && ((opField r.word).toNat != 5 || decide (r.operand < 2))

/-- The operand outside the word (R67, R70): d, n or b; 0 for a kind that names none. -/
def Instr.operand : Instr → Nat
  | .writeVram _ d | .writeOam _ d | .writeUnmapped _ d => d.toNat
  | .writeLcdc d | .writeStat d | .writeScy d | .writeScx d | .writeLy d | .writeLyc d | .writeDma d | .writeBgp d => d.toNat
  | .writeObp0 d | .writeObp1 d | .writeWy d | .writeWx d | .writeVbk d | .writeBcps d | .writeBcpd d => d.toNat
  | .writeOcps d | .writeOcpd d => d.toNat
  | .tick n => n
  | .setDma b => b.toNat
  | _ => 0

/-- The encoder (R67): the word `op·0x10000 + addr` and the operand outside it. -/
def encode (i : Instr) : Request :=
  { word := i.mnemonic.op ++ i.mnemonic.address i.ownAddress, operand := i.operand }

/-- One row of the opcode map (R72): a word `w` selects it when `w &&& mask = pattern`. -/
structure OpcodeRow where
  mnemonic : Mnemonic
  pattern  : ReqWord
  mask     : ReqWord
  deriving DecidableEq, Repr

/-- The row's test of a word (R72). -/
def OpcodeRow.selects (r : OpcodeRow) (w : ReqWord) : Bool := (w &&& r.mask) == r.pattern

/-- The memory window rows of R72. -/
def windowRows : List OpcodeRow :=
  [⟨.read .vram, 0x08000#19, 0x7E000#19⟩, ⟨.write .vram, 0x18000#19, 0x7E000#19⟩,
   ⟨.read .oam, 0x0FE00#19, 0x7FF80#19⟩, ⟨.read .oam, 0x0FE80#19, 0x7FFE0#19⟩,
   ⟨.write .oam, 0x1FE00#19, 0x7FF80#19⟩, ⟨.write .oam, 0x1FE80#19, 0x7FFE0#19⟩]

/-- The READ word and the WRITE word of each register in R72; their rows fix all 19 bits. -/
def registerWords : List (Reg × ReqWord × ReqWord) :=
  [(.lcdc, 0x0FF40#19, 0x1FF40#19), (.stat, 0x0FF41#19, 0x1FF41#19), (.scy, 0x0FF42#19, 0x1FF42#19),
   (.scx, 0x0FF43#19, 0x1FF43#19), (.ly, 0x0FF44#19, 0x1FF44#19), (.lyc, 0x0FF45#19, 0x1FF45#19),
   (.dma, 0x0FF46#19, 0x1FF46#19), (.bgp, 0x0FF47#19, 0x1FF47#19), (.obp0, 0x0FF48#19, 0x1FF48#19),
   (.obp1, 0x0FF49#19, 0x1FF49#19), (.wy, 0x0FF4A#19, 0x1FF4A#19), (.wx, 0x0FF4B#19, 0x1FF4B#19),
   (.vbk, 0x0FF4F#19, 0x1FF4F#19), (.bcps, 0x0FF68#19, 0x1FF68#19), (.bcpd, 0x0FF69#19, 0x1FF69#19),
   (.ocps, 0x0FF6A#19, 0x1FF6A#19), (.ocpd, 0x0FF6B#19, 0x1FF6B#19)]

/-- The register rows of R72, READ before WRITE. -/
def registerRows : List OpcodeRow :=
  registerWords.flatMap fun x => [⟨.read (.reg x.1), x.2.1, 0x7FFFF#19⟩, ⟨.write (.reg x.1), x.2.2, 0x7FFFF#19⟩]

/-- The rows after them in R72: the two UNMAPPED rows, then the non-bus operations. -/
def otherRows : List OpcodeRow :=
  [⟨.read .unmapped, 0x00000#19, 0x70000#19⟩, ⟨.write .unmapped, 0x10000#19, 0x70000#19⟩,
   ⟨.tick, 0x20000#19, 0x7FFFF#19⟩, ⟨.ackVblank, 0x30000#19, 0x7FFFF#19⟩,
   ⟨.ackStat, 0x40000#19, 0x7FFFF#19⟩, ⟨.setDma, 0x50000#19, 0x7FFFF#19⟩]

/-- The opcode map of R72, its rows in the table's order; the two UNMAPPED rows come after every other row of their `op`,
so that the first row that selects a word is the row R72 gives it. -/
def opcodeMap : List OpcodeRow :=
  windowRows ++ registerRows ++ otherRows

/-- The mnemonic the opcode map gives a word (R72): the first row that selects it. -/
def mapMnemonic (w : ReqWord) : Option Mnemonic :=
  (opcodeMap.find? (·.selects w)).map (·.mnemonic)

/-- The request whose word has the bits `w` numbered as spec/opcode_table.json numbers them, its operand 0; none where
`w` is no 19-bit word (log entry 6). -/
def tableRequest (nbits w : Nat) : Option Request :=
  let bits := w % 2 ^ nbits
  if bits < 2 ^ 19 then some { word := BitVec.ofNat 19 bits, operand := 0 } else none

/-- What the decoder reads from an instruction of the opcode table (operand 0). -/
def decodeTableWord (nbits w : Nat) : Option Instr :=
  match tableRequest nbits w with
  | none => none
  | some r =>
    match decode r with
    | .ok i => some i
    | .error _ => none

end Sys2Proof
end

