-- ==== Sys2Proof/Machine/State.lean ====
section
/-!
DEFINITION. The state of the block (10_state.md R14 to R48), the reasons a step can stop, and the power-on state
(70_reset_and_hazards.md R188). All of it is plain data.
-/

namespace Sys2Proof.Machine

/-- The scanline mode (R15). -/
inductive Mode where
  | hblank
  | vblank
  | search
  | transfer
  deriving DecidableEq, Repr

/-- The read a delay slot leads to (R39). -/
inductive ReadStep where
  | tile
  | low
  | high
  deriving DecidableEq, Repr

/-- The two push steps (R39). -/
inductive PushPhase where
  | advance
  | commit
  deriving DecidableEq, Repr

/-- The fetcher's state, a tagged variant without a numeric encoding (R39, R77). -/
inductive FetcherState where
  | idle (next : ReadStep)
  | readTile
  | readLow
  | readHigh
  | push (phase : PushPhase)
  deriving DecidableEq, Repr

/-- The kind of a bus access, as a `BusFault` records it (R175). -/
inductive AccessKind where
  | read
  | write
  deriving DecidableEq, Repr

/-- The fault reasons (60_exceptions.md R175). An operation that raises one answers the faulted state as its next state
(`State.fault` set, R174); every later step and operation answers `Outcome.fault` with that same reason (log entry 3). -/
inductive Fault where
  /-- Raised by READ_UNMAPPED and WRITE_UNMAPPED (R164, R165), with the access kind and the address. Safe: the spec's own
  fatal fault, and nothing is claimed of the state after it. -/
  | busFault (kind : AccessKind) (a : Addr)
  /-- Raised by the fetcher's plane reads inside TICK at an address outside the VRAM window (R111, R176), with the computed
  address. Safe: the spec's own fatal fault (its decision D12). -/
  | fetchFault (a : Nat)
  deriving DecidableEq, Repr

/-- Why a request has no meaning. -/
inductive Refusal where
  /-- An instruction whose arm of `exec` has no meaning yet; raised by such an arm only. Safe: nothing is claimed of it. -/
  | notModelled (mnemonic : String)
  /-- The decoder refuses the request (R69, R73); raised by `step` before any operation. Safe: the spec says no step is
  taken (log entry 7). -/
  | malformedRequest (e : DecodeError)
  deriving DecidableEq, Repr

/-- A memory surface (R45): (address, byte) pairs, addresses strictly rising, no byte equal to what an unlisted address
reads as (`Memory.unlisted`). -/
abbrev Memory := List Host.Cell

/-- The one aggregate of R14. The last two fields are the model's own (log entries 1 and 2). -/
structure State where
  /-- R15, R16 -/
  mode : Mode
  /-- R17 -/
  modeClock : Nat
  /-- R18 -/
  ly : Byte
  /-- R19 -/
  cursor : Nat
  /-- R20 -/
  borrowed : Nat
  /-- R26 -/
  lcdc : Byte
  /-- R27: the byte `v & 0x78` (log entry 11) -/
  statSel : Byte
  /-- R28 -/
  scy : Byte
  /-- R29 -/
  scx : Byte
  /-- R30 -/
  lyc : Byte
  /-- R28 -/
  wy : Byte
  /-- R29 -/
  wx : Byte
  /-- R32 -/
  bgp : Byte
  /-- R33 -/
  obp0 : Byte
  /-- R33 -/
  obp1 : Byte
  /-- R35 -/
  vbk : BitVec 1
  /-- R36 -/
  bcpsIdx : BitVec 6
  /-- R36 -/
  bcpsAi : BitVec 1
  /-- R36 -/
  ocpsIdx : BitVec 6
  /-- R36 -/
  ocpsAi : BitVec 1
  /-- R39 -/
  fstate : FetcherState
  /-- R40 -/
  fcol : BitVec 5
  /-- R41 -/
  tileIdx : Byte
  /-- R41 -/
  lo : Byte
  /-- R41 -/
  hi : Byte
  /-- R42, head first -/
  fifo : List ColorIndex
  /-- R43 -/
  discard : Nat
  /-- R45: `vram[0]`, 8192 bytes -/
  vram0 : Memory
  /-- R45: `vram[1]`, 8192 bytes -/
  vram1 : Memory
  /-- R45: 160 bytes -/
  oam : Memory
  /-- R45: 64 bytes -/
  bgpal : Memory
  /-- R45: 64 bytes -/
  objpal : Memory
  /-- R45, R54: 92160 bytes -/
  fb : Memory
  /-- R46 -/
  vblankIrq : Bool
  /-- R46 -/
  statIrq : Bool
  /-- R47 -/
  dmaActive : Bool
  /-- R48, R174 -/
  fault : Option Fault
  /-- The model's own: the byte the last READ returned (R66, R171; log entry 2). -/
  readByte : Option Byte
  /-- The model's own: the caller's pending requests, oldest first (R173; log entry 1). -/
  requests : List Request
  deriving DecidableEq, Repr

/-- The power-on state (R188). -/
def State.reset : State where
  mode := .hblank
  modeClock := 0
  ly := 0x00#8
  cursor := 0
  borrowed := 0
  lcdc := 0x00#8
  statSel := 0x00#8
  scy := 0x00#8
  scx := 0x00#8
  lyc := 0x00#8
  wy := 0x00#8
  wx := 0x00#8
  bgp := 0x00#8
  obp0 := 0x00#8
  obp1 := 0x00#8
  vbk := 0#1
  bcpsIdx := 0#6
  bcpsAi := 0#1
  ocpsIdx := 0#6
  ocpsAi := 0#1
  fstate := .idle .tile
  fcol := 0#5
  tileIdx := 0x00#8
  lo := 0x00#8
  hi := 0x00#8
  fifo := []
  discard := 0
  vram0 := []
  vram1 := []
  oam := []
  bgpal := []
  objpal := []
  fb := []
  vblankIrq := false
  statIrq := false
  dmaActive := false
  fault := none
  readByte := none
  requests := []

end Sys2Proof.Machine
end

