-- ==== Sys2Proof/Machine/Ops.lean ====
section
/-!
DEFINITION. The named operations over memories and state that every meaning is built from: byte memories (R45), the bits of
a byte (R9), taking a fault (60_exceptions.md R174), completing an operation, and taking the caller's next request (R173).
The block has no trap return (R180); clearing an interrupt latch is the nearest thing (R166, R167).
-/

namespace Sys2Proof.Machine

/-! ### Byte memories -/

/-- What an unlisted address reads as: every memory is zero-filled at power-on (R45, R188). -/
def Memory.unlisted : Byte := 0x00#8

/-- The byte at an address. -/
def Memory.read : Memory → Nat → Byte
  | [], _ => Memory.unlisted
  | c :: rest, a => if c.1 = a then c.2 else Memory.read rest a

/-- Puts `v` before the cells that follow it, or nothing where `v` is what an unlisted address reads as. -/
def Memory.cell (a : Nat) (v : Byte) (rest : Memory) : Memory :=
  if v = Memory.unlisted then rest else (a, v) :: rest

/-- Stores a byte, keeping the canonical form. -/
def Memory.write : Memory → Nat → Byte → Memory
  | [], a, v => Memory.cell a v []
  | c :: rest, a, v =>
    if c.1 < a then c :: Memory.write rest a v
    else if c.1 = a then Memory.cell a v rest
    else Memory.cell a v (c :: rest)

/-- Every one of the first `n` bytes holds `v`. Irreducible, so that no comparison of states unfolds a full framebuffer;
`Memory.read_filled` says what it reads as. -/
@[irreducible] def Memory.filled (n : Nat) (v : Byte) : Memory :=
  if v = Memory.unlisted then [] else (List.range n).map fun i => (i, v)

/-- The canonical form: addresses strictly rising, and no entry that reads as an unlisted address does. -/
abbrev Memory.wf (m : Memory) : Prop :=
  m.Pairwise (fun c d => c.1 < d.1) ∧ ∀ c ∈ m, c.2 ≠ Memory.unlisted

/-- Every listed address is below the size of the memory surface. -/
abbrev Memory.within (n : Nat) (m : Memory) : Prop := ∀ c ∈ m, c.1 < n

/-! ### Sizes of the memory surfaces (R8, R45) -/

def vramSize : Nat := 8192
def oamSize : Nat := 160
def paletteSize : Nat := 64
def fbSize : Nat := 92160

/-! ### Bits of a byte (R9) -/

/-- `v[i] = 1`. -/
def bit (v : Byte) (i : Nat) : Bool := v.getLsbD i

/-- Display enabled: bit 7 of LCDC is 1 (R25). -/
def State.displayEnabled (s : State) : Bool := bit s.lcdc 7

/-! ### Faults and completion -/

/-- Taking a fault (R174): the reason is recorded and nothing else changes; what the operation wrote before stays. -/
def State.raise (s : State) (f : Fault) : State := { s with fault := some f }

/-- Goes on with `next` unless a fault has been raised: "the operation ends at once, at the step that raised it" (R174). -/
def State.andThen (s : State) (next : State → State) : State :=
  match s.fault with
  | none => next s
  | some _ => s

/-- Runs one whole operation (R59). After a fault "no later operation takes any step" (R174): the machine has stopped, and
the outcome is the recorded fault. -/
def perform (s : State) (op : State → State) : Host.Outcome State Fault Refusal :=
  match s.fault with
  | none => .next (op s)
  | some f => .fault f

/-- A READ returns one byte (R66). -/
def State.returnByte (s : State) (v : Byte) : State := { s with readByte := some v }

/-! ### The caller's requests (R173) -/

/-- The oldest pending request, and the state without it. -/
def takeRequest (s : State) : Option (Request × State) :=
  match s.requests with
  | [] => none
  | r :: rest => some (r, { s with requests := rest })

/-- The caller adds a request behind the pending ones. -/
def State.submit (s : State) (r : Request) : State := { s with requests := s.requests ++ [r] }

/-- The word whose `op` is reserved (R68); the decoder refuses it (R73). -/
def reservedRequest : Request := { word := 0x70000#19, operand := 0 }

/-- Makes a table word (operand 0) the next request; a number that is no 19-bit word becomes a request the decoder
refuses (log entry 6). -/
def State.placeTableWord (s : State) (nbits w : Nat) : State :=
  { s with requests := ((tableRequest nbits w).getD reservedRequest) :: s.requests }

end Sys2Proof.Machine
end

