-- ==== Sys2Proof/Machine/Operands.lean ====
section
/-!
DEFINITION. The operand forms: the cells a bus address names (20_memory.md R51, R52), the palette cell an index names (R37),
the framebuffer cells of a pixel (R54), and the fetcher's address computations (41_pixel_pipeline.md R103 to R105).
-/

namespace Sys2Proof.Machine

/-! ### Bus operands -/

/-- `bank(s)` (R35): VBK in the enhanced mode, 0 in the monochrome mode. -/
def bank (c : Config) (s : State) : BitVec 1 :=
  match c.colorMode with
  | .enhanced => s.vbk
  | .monochrome => 0#1

/-- `vram[b]` (R45). -/
def State.vram (s : State) (b : BitVec 1) : Memory := if b = 0#1 then s.vram0 else s.vram1

/-- Replaces `vram[b]`. -/
def State.setVram (s : State) (b : BitVec 1) (m : Memory) : State :=
  if b = 0#1 then { s with vram0 := m } else { s with vram1 := m }

/-- The index of a VRAM window address in its bank (R51). -/
def vramIndex (a : Addr) : Nat := a.toNat - 0x8000

/-- The index of an OAM window address (R52). -/
def oamIndex (a : Addr) : Nat := a.toNat - 0xFE00

/-! ### Framebuffer (R54) -/

/-- The index of the first byte of pixel (x, y). -/
def fbIndex (x y : Nat) : Nat := 4 * (160 * y + x)

/-- Writes an RGBA color to `Fb(x, y)`: its four bytes in the order R, G, B, A. -/
def fbWrite (m : Memory) (x y : Nat) (p : Rgba) : Memory :=
  (((m.write (fbIndex x y) p.r).write (fbIndex x y + 1) p.g).write (fbIndex x y + 2) p.b).write (fbIndex x y + 3) p.a

/-- The four bytes of `Fb(x, y)`. -/
def fbRead (m : Memory) (x y : Nat) : Rgba :=
  { r := m.read (fbIndex x y), g := m.read (fbIndex x y + 1), b := m.read (fbIndex x y + 2), a := m.read (fbIndex x y + 3) }

/-! ### Fetcher addresses -/

/-- The tilemap base (R103). -/
def mapBase (s : State) : Nat := if bit s.lcdc 3 then 0x9C00 else 0x9800

/-- The tile row, 0–31 (R103). -/
def tileRow (s : State) : Nat := ((s.ly.toNat + s.scy.toNat) % 256) / 8

/-- The tile column, 0–31 (R103). -/
def tileCol (s : State) : Nat := (s.scx.toNat / 8 + s.fcol.toNat) % 32

/-- `MapAddr(s)` (R103). -/
def mapAddr (s : State) : Nat := mapBase s + 32 * tileRow s + tileCol s

/-- `TD_UBASE` (R8, R104). -/
def tdUnsignedBase : Nat := 0x8000

/-- `TD_SBASE = TD_UBASE − 0x800` (R8, R104). -/
def tdSignedBase : Nat := tdUnsignedBase - 0x800

/-- `TileAddr(s)` (R104): unsigned in mode 1; signed and offset by 128 in mode 0. -/
def tileAddr (s : State) : Nat :=
  if bit s.lcdc 4 then tdUnsignedBase + 16 * s.tileIdx.toNat
  else tdSignedBase + 16 * (s.tileIdx.toInt + 128).toNat

/-- `RowOff(s)` (R105). -/
def rowOff (s : State) : Nat := 2 * ((s.ly.toNat + s.scy.toNat) % 8)

/-- `LowAddr(s)` (R105). -/
def lowAddr (s : State) : Nat := tileAddr s + rowOff s

/-- `HighAddr(s)` (R105). -/
def highAddr (s : State) : Nat := tileAddr s + rowOff s + 1

/-- `VramFetch(a)` (R111): bank 0, no lockout; an address outside the VRAM window is the fatal `FetchFault`. -/
def vramFetch (s : State) (a : Nat) : Except Fault Byte :=
  if a < 0x8000 ∨ 0x9FFF < a then .error (.fetchFault a) else .ok (s.vram0.read (a - 0x8000))

end Sys2Proof.Machine
end

