-- ==== Sys2Proof/Machine/Flags.lean ====
section
/-!
DEFINITION. The status byte, the derived flags, the interrupt request latches and the lockout conditions (10_state.md R15,
R27; 40_scheduler.md R91, R92; 43_bus_arbiter.md R125).
-/

namespace Sys2Proof.Machine

/-- `enc(mode)`, the 2-bit status value (R15). -/
def enc : Mode → BitVec 2
  | .hblank => 0b00#2
  | .vblank => 0b01#2
  | .search => 0b10#2
  | .transfer => 0b11#2

/-- The coincidence flag: `ly = lyc`, evaluated at the time it is asked for (R27). -/
def coincidence (s : State) : Bool := s.ly == s.lyc

/-- The status byte (R27, R132): bit 7 unused, bits 6:3 the stored enables, bit 2 the coincidence flag, bits 1:0 the mode. -/
def statByte (c : Config) (s : State) : Byte :=
  (c.unusedBitRead.setWidth 8 <<< 7) ||| s.statSel ||| ((BitVec.ofBool (coincidence s)).setWidth 8 <<< 2) |||
    (enc s.mode).setWidth 8

/-- A status-interrupt event (R92): it sets `stat_irq` when its enable, bit `i` of STAT, is 1, and never clears it. -/
def State.statEvent (s : State) (i : Nat) : State :=
  if bit s.statSel i then { s with statIrq := true } else s

/-- The coincidence check (R91), on STAT bit 6. -/
def coincidenceCheck (s : State) : State := if coincidence s then s.statEvent 6 else s

/-- A VRAM read is replaced by 0x00 (R125, R126). -/
def vramReadLocked (s : State) : Bool := s.mode == .transfer && !s.dmaActive

/-- A VRAM write is dropped (R125, R127). -/
def vramWriteLocked (s : State) : Bool := s.displayEnabled && s.mode == .transfer

/-- An OAM read is replaced by 0x00 (R125, R128). -/
def oamReadLocked (s : State) : Bool := (s.mode == .search || s.mode == .transfer) && !s.dmaActive

/-- An OAM write is dropped (R125, R129). -/
def oamWriteLocked (s : State) : Bool := s.displayEnabled && (s.mode == .search || s.mode == .transfer)

/-- A palette data write is rejected, whatever the display enable is (R125, R159, R163). -/
def paletteWriteLocked (s : State) : Bool := s.mode == .transfer

end Sys2Proof.Machine
end

