-- ==== Sys2Proof/Machine/Color.lean ====
section
/-!
DEFINITION. The color resolver (42_color_resolver.md R119 to R123): two pure functions. The pipeline calls the monochrome one
only (41_pixel_pipeline.md R116); no step of the block calls the enhanced one.
-/

namespace Sys2Proof.Machine

/-- `(pal >> (2 × v)) & 3`, the shade a palette byte gives a color index (R119). -/
def shadeOf (pal : Byte) (v : ColorIndex) : BitVec 2 := (pal >>> (2 * v.toNat)).setWidth 2

/-- `MonoResolve(pal, v)` (R119). -/
def monoResolve (c : Config) (pal : Byte) (v : ColorIndex) : Rgba := c.monoShade (shadeOf pal v)

/-- `Expand5(c)` (R121). -/
def expand5 (c : BitVec 5) : Byte := (c.setWidth 8 <<< 3) ||| (c.setWidth 8 >>> 2)

/-- The 16-bit word of color `c` of palette `p`, little-endian in memory (R53). -/
def paletteWord (mem : Memory) (p c : Nat) : BitVec 16 := mem.read (8 * p + 2 * c + 1) ++ mem.read (8 * p + 2 * c)

/-- `EnhResolve(mem, p, c)` (R122): out-of-range arguments are masked (R123); bit 15 of the word is not used. -/
def enhResolve (mem : Memory) (p c : Nat) : Rgba :=
  let w := paletteWord mem (p % 8) (c % 4)
  { r := expand5 (w.extractLsb' 0 5), g := expand5 (w.extractLsb' 5 5), b := expand5 (w.extractLsb' 10 5), a := 0xFF#8 }

end Sys2Proof.Machine
end

