-- ==== Sys2Proof/Machine/Pipeline.lean ====
section
/-!
DEFINITION. The pixel pipeline (41_pixel_pipeline.md R99 to R114): the fetcher's steps, the FIFO's steps and the
pseudo-cycle. It runs inside TICK in the Transfer mode only.
-/

namespace Sys2Proof.Machine

/-- The fetcher state a delay slot goes to (R39, R101). -/
def ReadStep.target : ReadStep → FetcherState
  | .tile => .readTile
  | .low => .readLow
  | .high => .readHigh

/-- A fetcher read: hands the byte on, or raises the fetch fault and writes nothing (R111, R174). -/
def fetchByte (s : State) (a : Nat) (use : Byte → State) : State :=
  match vramFetch s a with
  | .error f => s.raise f
  | .ok v => use v

/-- The step in `ReadTile` (R102). -/
def readTileStep (s : State) : State := fetchByte s (mapAddr s) fun v => { s with tileIdx := v, fstate := .idle .low }

/-- The step in `ReadLow` (R106). -/
def readLowStep (s : State) : State := fetchByte s (lowAddr s) fun v => { s with lo := v, fstate := .idle .high }

/-- The step in `ReadHigh` (R107). -/
def readHighStep (s : State) : State := fetchByte s (highAddr s) fun v => { s with hi := v, fstate := .push .advance }

/-- The step in `Push(Advance)` (R108): the column wraps mod 32. -/
def advanceStep (s : State) : State := { s with fcol := s.fcol + 1#5, fstate := .push .commit }

/-- `Pixel(lo, hi, i)` (R110): pixel 0 is the leftmost and takes bit 7 of each plane. -/
def pixel (lo hi : Byte) (i : Nat) : ColorIndex := BitVec.ofBool (bit hi (7 - i)) ++ BitVec.ofBool (bit lo (7 - i))

/-- The 8 pixels of one tile row, leftmost first (R110). -/
def tilePixels (lo hi : Byte) : List ColorIndex := (List.range 8).map (pixel lo hi)

/-- The FIFO's operational threshold (R8, R42). -/
def fifoThreshold : Nat := 8

/-- The step in `Push(Commit)` (R109): pushes 8 pixels when the FIFO has room, and stalls otherwise. -/
def commitStep (s : State) : State :=
  if s.fifo.length ≤ fifoThreshold then { s with fifo := s.fifo ++ tilePixels s.lo s.hi, fstate := .idle .tile } else s

/-- One fetcher step, chosen by `fstate` (R100 to R109). -/
def fetcherStep (s : State) : State :=
  match s.fstate with
  | .idle next => { s with fstate := next.target }
  | .readTile => readTileStep s
  | .readLow => readLowStep s
  | .readHigh => readHighStep s
  | .push .advance => advanceStep s
  | .push .commit => commitStep s

/-- `DiscardPop` (R113). -/
def discardPop (s : State) : State :=
  { s with fifo := s.fifo.tail, discard := s.discard - 1, borrowed := s.borrowed + 1 }

/-- `EmitPop` (R114): the popped pixel goes through the monochrome palette to (cursor, ly). The FIFO is never empty here. -/
def emitPop (c : Config) (s : State) : State :=
  { s with
    fifo := s.fifo.tail
    fb := fbWrite s.fb s.cursor s.ly.toNat (monoResolve c s.bgp (s.fifo.headD 0#2))
    cursor := s.cursor + 1 }

/-- One FIFO step (R112). -/
def fifoStep (c : Config) (s : State) : State :=
  if s.fifo.length ≤ fifoThreshold then s
  else if 0 < s.discard then discardPop s
  else emitPop c s

/-- One pseudo-cycle (R99): a fetcher step, then a FIFO step; a fetch fault ends it (R174). -/
def pseudoCycle (c : Config) (s : State) : State := (fetcherStep s).andThen (fifoStep c)

end Sys2Proof.Machine
end

