-- ==== Sys2Proof/Machine/Scheduler.lean ====
section
/-!
DEFINITION. The scanline mode scheduler and TICK (40_scheduler.md R78 to R93).
-/

namespace Sys2Proof.Machine

/-! ### Lengths (R8, R17) -/

def searchLength : Nat := 80
def slotLength : Nat := 456

/-- `L(HBlank) = 204 − borrowed` (R83). -/
def hblankLength (s : State) : Nat := 204 - s.borrowed

/-! ### Transitions -/

/-- Search → Transfer (R85): the line's pipeline starts from a clean state; no interrupt. -/
def enterTransfer (s : State) : State :=
  { s with
    mode := .transfer
    modeClock := 0
    cursor := 0
    discard := s.scx.toNat % 8
    borrowed := 0
    fstate := .idle .tile
    fcol := 0#5
    fifo := [] }

/-- Transfer → HBlank (R86), with the HBlank event on STAT bit 3. -/
def enterHBlank (s : State) : State := ({ s with mode := .hblank, modeClock := 0 } : State).statEvent 3

/-- Entering VBlank (R88): the vertical-blank latch, and the VBlank event on STAT bit 4. -/
def enterVBlank (s : State) : State :=
  ({ s with mode := .vblank, modeClock := 0, vblankIrq := true } : State).statEvent 4

/-- Entering Search (R89), with the Search event on STAT bit 5. -/
def enterSearch (s : State) : State := ({ s with mode := .search, modeClock := 0 } : State).statEvent 5

/-- The start of a line increment (R87, R90): the clock restarts, the line counter takes its new value, and the
coincidence check sees that value (R93). -/
def startLine (s : State) (ly : Byte) : State := coincidenceCheck { s with modeClock := 0, ly := ly }

/-- The end of HBlank (R87). -/
def endHBlank (s : State) : State :=
  let s' := startLine s (s.ly + 1#8)
  if 143#8 < s'.ly then enterVBlank s' else enterSearch s'

/-- The end of a VBlank line slot (R90): line 153 is reset to 0 at once and checked as 0; the slot that reads as line 0
ends the frame, with no coincidence check. -/
def vblankSlotEnd (s : State) : State :=
  if s.ly = 0#8 then enterSearch { s with modeClock := 0, ly := 0#8 }
  else startLine s (if s.ly + 1#8 = 153#8 then 0#8 else s.ly + 1#8)

/-! ### Mode handlers: each answers the remaining budget and the state -/

/-- The handlers of the fixed-length modes (R81, R83, R84): up to `len − mode_clock` cycles, then the transition on the
cycle that reaches the length (R80). -/
def timedHandler (len : Nat) (transition : State → State) (b : Nat) (s : State) : Nat × State :=
  let t := min b (len - s.modeClock)
  let s' := { s with modeClock := s.modeClock + t }
  (b - t, if s'.modeClock = len then transition s' else s')

/-- Search (R81). -/
def searchHandler : Nat → State → Nat × State := timedHandler searchLength enterTransfer

/-- HBlank (R83). -/
def hblankHandler (b : Nat) (s : State) : Nat × State := timedHandler (hblankLength s) endHBlank b s

/-- VBlank (R84). -/
def vblankHandler : Nat → State → Nat × State := timedHandler slotLength vblankSlotEnd

/-- The bookkeeping of a Transfer cycle after its pseudo-cycle (R82): the clock advances, and the cycle that makes the
cursor 160 enters HBlank. -/
def closeTransferCycle (s : State) : State :=
  let s' := { s with modeClock := s.modeClock + 1 }
  if s'.cursor = 160 then enterHBlank s' else s'

/-- One cycle of Transfer (R82); a fetch fault ends it before its bookkeeping (R174). -/
def transferCycle (c : Config) (s : State) : State := (pseudoCycle c s).andThen closeTransferCycle

/-- Transfer (R82): one pseudo-cycle per budget cycle until the mode is left or a fault is raised. -/
def transferHandler (c : Config) : Nat → State → Nat × State
  | 0, s => (0, s)
  | b + 1, s =>
    let s' := transferCycle c s
    if s'.mode = .transfer ∧ s'.fault = none then transferHandler c b s' else (b, s')

/-- The dispatch of the tick loop (R78). -/
def modeHandler (c : Config) (b : Nat) (s : State) : Nat × State :=
  match s.mode with
  | .search => searchHandler b s
  | .transfer => transferHandler c b s
  | .hblank => hblankHandler b s
  | .vblank => vblankHandler b s

/-- The tick loop (R78): the remainder is redispatched at once, until the budget is used up or a fault is raised. The first
argument bounds the turns (log entry 8). -/
def tickLoop (c : Config) : Nat → Nat → State → State
  | 0, _, s => s
  | turns + 1, b, s =>
    if b = 0 ∨ s.fault ≠ none then s
    else
      let r := modeHandler c b s
      tickLoop c turns r.1 r.2

/-- `TICK(n)` (R78): nothing happens while the display is disabled (R79). At most every second turn of the loop uses no
cycle, so `2 × n` turns are enough (log entry 8). -/
def tick (c : Config) (n : Nat) (s : State) : State := if s.displayEnabled then tickLoop c (2 * n) n s else s

/-! ### The meaning -/

/-- TICK (R78). -/
def execTick (n : Nat) (s : State) : Host.Outcome State Fault Refusal := perform s (tick Config.given n)

end Sys2Proof.Machine
end

