-- ==== Sys2Proof/Machine/Bus.lean ====
section
/-!
DEFINITION. The video memory, sprite table and unmapped operations of the bus arbiter (43_bus_arbiter.md R126 to R129, R164,
R165).
-/

namespace Sys2Proof.Machine

/-- The byte a VRAM read returns (R126). -/
def vramReadValue (c : Config) (a : Addr) (s : State) : Byte :=
  if vramReadLocked s then 0x00#8 else (s.vram (bank c s)).read (vramIndex a)

/-- A VRAM write (R127). -/
def vramWrite (c : Config) (a : Addr) (d : Byte) (s : State) : State :=
  if vramWriteLocked s then s else s.setVram (bank c s) ((s.vram (bank c s)).write (vramIndex a) d)

/-- The byte an OAM read returns (R128). -/
def oamReadValue (a : Addr) (s : State) : Byte := if oamReadLocked s then 0x00#8 else s.oam.read (oamIndex a)

/-- An OAM write (R129). -/
def oamWrite (a : Addr) (d : Byte) (s : State) : State :=
  if oamWriteLocked s then s else { s with oam := s.oam.write (oamIndex a) d }

/-- READ_VRAM (R126). -/
def execReadVram (a : Addr) (s : State) : Host.Outcome State Fault Refusal :=
  perform s fun s => s.returnByte (vramReadValue Config.given a s)

/-- WRITE_VRAM (R127). -/
def execWriteVram (a : Addr) (d : Byte) (s : State) : Host.Outcome State Fault Refusal :=
  perform s (vramWrite Config.given a d)

/-- READ_OAM (R128). -/
def execReadOam (a : Addr) (s : State) : Host.Outcome State Fault Refusal :=
  perform s fun s => s.returnByte (oamReadValue a s)

/-- WRITE_OAM (R129). -/
def execWriteOam (a : Addr) (d : Byte) (s : State) : Host.Outcome State Fault Refusal := perform s (oamWrite a d)

/-- READ_UNMAPPED (R164): no value is returned. -/
def execReadUnmapped (a : Addr) (s : State) : Host.Outcome State Fault Refusal :=
  perform s fun s => s.raise (.busFault .read a)

/-- WRITE_UNMAPPED (R165): `d` is not examined. -/
def execWriteUnmapped (a : Addr) (_d : Byte) (s : State) : Host.Outcome State Fault Refusal :=
  perform s fun s => s.raise (.busFault .write a)

end Sys2Proof.Machine
end

