-- ==== Sys2Proof/Machine/Registers.lean ====
section
/-!
DEFINITION. The control, status, position, monochrome palette, placeholder, DMA and bank registers of the bus arbiter
(43_bus_arbiter.md R130 to R155).
-/

namespace Sys2Proof.Machine

/-- `DisplayOff` (R131, R189): it writes exactly `ly`, `mode`, `mode_clock`, `borrowed` and the whole framebuffer. -/
def displayOff (s : State) : State :=
  { s with ly := 0x00#8, mode := .hblank, modeClock := 0, borrowed := 0, fb := Memory.filled fbSize 0xFF#8 }

/-- A write of LCDC (R131): the on→off edge of bit 7 resets the display. -/
def writeLcdc (d : Byte) (s : State) : State :=
  if s.displayEnabled && !bit d 7 then displayOff { s with lcdc := d } else { s with lcdc := d }

/-- The byte a read of VBK returns (R154). -/
def vbkByte (c : Config) (s : State) : Byte := (c.unusedBitRead.setWidth 8 * 0xFE#8) ||| s.vbk.setWidth 8

/-- READ_LCDC (R130). -/
def execReadLcdc (s : State) : Host.Outcome State Fault Refusal := perform s fun s => s.returnByte s.lcdc

/-- WRITE_LCDC (R131). -/
def execWriteLcdc (d : Byte) (s : State) : Host.Outcome State Fault Refusal := perform s (writeLcdc d)

/-- READ_STAT (R132). -/
def execReadStat (s : State) : Host.Outcome State Fault Refusal := perform s fun s => s.returnByte (statByte Config.given s)

/-- WRITE_STAT (R133). -/
def execWriteStat (d : Byte) (s : State) : Host.Outcome State Fault Refusal := perform s fun s => { s with statSel := d &&& 0x78#8 }

/-- READ_SCY (R134). -/
def execReadScy (s : State) : Host.Outcome State Fault Refusal := perform s fun s => s.returnByte s.scy

/-- WRITE_SCY (R135). -/
def execWriteScy (d : Byte) (s : State) : Host.Outcome State Fault Refusal := perform s fun s => { s with scy := d }

/-- READ_SCX (R136). -/
def execReadScx (s : State) : Host.Outcome State Fault Refusal := perform s fun s => s.returnByte s.scx

/-- WRITE_SCX (R137). -/
def execWriteScx (d : Byte) (s : State) : Host.Outcome State Fault Refusal := perform s fun s => { s with scx := d }

/-- READ_LY (R138). -/
def execReadLy (s : State) : Host.Outcome State Fault Refusal := perform s fun s => s.returnByte s.ly

/-- WRITE_LY (R139): accepted and ignored (the register is read-only). -/
def execWriteLy (_d : Byte) (s : State) : Host.Outcome State Fault Refusal := perform s fun s => s

/-- READ_LYC (R140). -/
def execReadLyc (s : State) : Host.Outcome State Fault Refusal := perform s fun s => s.returnByte s.lyc

/-- WRITE_LYC (R141): no coincidence check runs (R91). -/
def execWriteLyc (d : Byte) (s : State) : Host.Outcome State Fault Refusal := perform s fun s => { s with lyc := d }

/-- READ_DMA (R142). -/
def execReadDma (s : State) : Host.Outcome State Fault Refusal := perform s fun s => s.returnByte 0xFF#8

/-- WRITE_DMA (R143): the transfer it triggers is outside the block; `dma_active` is not driven (R34). -/
def execWriteDma (_d : Byte) (s : State) : Host.Outcome State Fault Refusal := perform s fun s => s

/-- READ_BGP (R144). -/
def execReadBgp (s : State) : Host.Outcome State Fault Refusal := perform s fun s => s.returnByte s.bgp

/-- WRITE_BGP (R145). -/
def execWriteBgp (d : Byte) (s : State) : Host.Outcome State Fault Refusal := perform s fun s => { s with bgp := d }

/-- READ_OBP0 (R146). -/
def execReadObp0 (s : State) : Host.Outcome State Fault Refusal := perform s fun s => s.returnByte s.obp0

/-- WRITE_OBP0 (R147). -/
def execWriteObp0 (d : Byte) (s : State) : Host.Outcome State Fault Refusal := perform s fun s => { s with obp0 := d }

/-- READ_OBP1 (R148). -/
def execReadObp1 (s : State) : Host.Outcome State Fault Refusal := perform s fun s => s.returnByte s.obp1

/-- WRITE_OBP1 (R149). -/
def execWriteObp1 (d : Byte) (s : State) : Host.Outcome State Fault Refusal := perform s fun s => { s with obp1 := d }

/-- READ_WY (R150). -/
def execReadWy (s : State) : Host.Outcome State Fault Refusal := perform s fun s => s.returnByte s.wy

/-- WRITE_WY (R151). -/
def execWriteWy (d : Byte) (s : State) : Host.Outcome State Fault Refusal := perform s fun s => { s with wy := d }

/-- READ_WX (R152). -/
def execReadWx (s : State) : Host.Outcome State Fault Refusal := perform s fun s => s.returnByte s.wx

/-- WRITE_WX (R153). -/
def execWriteWx (d : Byte) (s : State) : Host.Outcome State Fault Refusal := perform s fun s => { s with wx := d }

/-- READ_VBK (R154). -/
def execReadVbk (s : State) : Host.Outcome State Fault Refusal := perform s fun s => s.returnByte (vbkByte Config.given s)

/-- WRITE_VBK (R155). -/
def execWriteVbk (d : Byte) (s : State) : Host.Outcome State Fault Refusal := perform s fun s => { s with vbk := d.extractLsb' 0 1 }

end Sys2Proof.Machine
end

