-- ==== Sys2Proof/Machine/Palette.lean ====
section
/-!
DEFINITION. The enhanced palette ports of the bus arbiter (43_bus_arbiter.md R156 to R163): the index registers BCPS and OCPS
and the data ports BCPD and OCPD.
-/

namespace Sys2Proof.Machine

/-- The byte a read of an index register returns (R36): auto-increment, unused bit, index. -/
def indexByte (c : Config) (ai : BitVec 1) (idx : BitVec 6) : Byte :=
  (ai.setWidth 8 <<< 7) ||| (c.unusedBitRead.setWidth 8 <<< 6) ||| idx.setWidth 8

/-- The index after an access to a data port (R158, R159): advanced mod 64 when auto-increment is set. -/
def nextIndex (ai : BitVec 1) (idx : BitVec 6) : BitVec 6 := if ai = 1#1 then idx + 1#6 else idx

/-- The palette memory after a write of a data port (R159, R163): unchanged while palette data writes are rejected. -/
def paletteWrite (s : State) (mem : Memory) (idx : BitVec 6) (d : Byte) : Memory :=
  if paletteWriteLocked s then mem else mem.write idx.toNat d

/-- READ_BCPS (R156). -/
def execReadBcps (s : State) : Host.Outcome State Fault Refusal := perform s fun s => s.returnByte (indexByte Config.given s.bcpsAi s.bcpsIdx)

/-- WRITE_BCPS (R157). -/
def execWriteBcps (d : Byte) (s : State) : Host.Outcome State Fault Refusal := perform s fun s => { s with bcpsIdx := d.extractLsb' 0 6, bcpsAi := d.extractLsb' 7 1 }

/-- READ_BCPD (R158): it returns the byte at the index and advances the index after it. -/
def execReadBcpd (s : State) : Host.Outcome State Fault Refusal :=
  perform s fun s =>
    { s.returnByte (s.bgpal.read s.bcpsIdx.toNat) with bcpsIdx := nextIndex s.bcpsAi s.bcpsIdx }

/-- WRITE_BCPD (R159): the index advances after a rejected write too. -/
def execWriteBcpd (d : Byte) (s : State) : Host.Outcome State Fault Refusal :=
  perform s fun s =>
    { s with bgpal := paletteWrite s s.bgpal s.bcpsIdx d, bcpsIdx := nextIndex s.bcpsAi s.bcpsIdx }

/-- READ_OCPS (R160). -/
def execReadOcps (s : State) : Host.Outcome State Fault Refusal := perform s fun s => s.returnByte (indexByte Config.given s.ocpsAi s.ocpsIdx)

/-- WRITE_OCPS (R161). -/
def execWriteOcps (d : Byte) (s : State) : Host.Outcome State Fault Refusal := perform s fun s => { s with ocpsIdx := d.extractLsb' 0 6, ocpsAi := d.extractLsb' 7 1 }

/-- READ_OCPD (R162): it returns the byte at the index and advances the index after it. -/
def execReadOcpd (s : State) : Host.Outcome State Fault Refusal :=
  perform s fun s =>
    { s.returnByte (s.objpal.read s.ocpsIdx.toNat) with ocpsIdx := nextIndex s.ocpsAi s.ocpsIdx }

/-- WRITE_OCPD (R163): the index advances after a rejected write too. -/
def execWriteOcpd (d : Byte) (s : State) : Host.Outcome State Fault Refusal :=
  perform s fun s =>
    { s with objpal := paletteWrite s s.objpal s.ocpsIdx d, ocpsIdx := nextIndex s.ocpsAi s.ocpsIdx }

end Sys2Proof.Machine
end

