-- ==== Sys2Proof/Machine/HostOps.lean ====
section
/-!
DEFINITION. The host operations (44_host_interface.md R166 to R168): clearing the two interrupt latches and driving the
DMA-active input.
-/

namespace Sys2Proof.Machine

/-- ACK_VBLANK (R166). -/
def execAckVblank (s : State) : Host.Outcome State Fault Refusal := perform s fun s => { s with vblankIrq := false }

/-- ACK_STAT (R167). -/
def execAckStat (s : State) : Host.Outcome State Fault Refusal := perform s fun s => { s with statIrq := false }

/-- SET_DMA (R168). -/
def execSetDma (b : Bool) (s : State) : Host.Outcome State Fault Refusal := perform s fun s => { s with dmaActive := b }

end Sys2Proof.Machine
end

