-- ==== Sys2Proof/Machine/Dispatch.lean ====
section
/-!
DEFINITION. The one dispatch: each operation's arm calls its meaning (30_encoding.md R72).
-/

namespace Sys2Proof.Machine

def exec (i : Instr) (s : State) : Host.Outcome State Fault Refusal :=
  match i with
  | .readVram a => Sys2Proof.Machine.execReadVram a s
  | .writeVram a d => Sys2Proof.Machine.execWriteVram a d s
  | .readOam a => Sys2Proof.Machine.execReadOam a s
  | .writeOam a d => Sys2Proof.Machine.execWriteOam a d s
  | .readLcdc => Sys2Proof.Machine.execReadLcdc s
  | .writeLcdc d => Sys2Proof.Machine.execWriteLcdc d s
  | .readStat => Sys2Proof.Machine.execReadStat s
  | .writeStat d => Sys2Proof.Machine.execWriteStat d s
  | .readScy => Sys2Proof.Machine.execReadScy s
  | .writeScy d => Sys2Proof.Machine.execWriteScy d s
  | .readScx => Sys2Proof.Machine.execReadScx s
  | .writeScx d => Sys2Proof.Machine.execWriteScx d s
  | .readLy => Sys2Proof.Machine.execReadLy s
  | .writeLy d => Sys2Proof.Machine.execWriteLy d s
  | .readLyc => Sys2Proof.Machine.execReadLyc s
  | .writeLyc d => Sys2Proof.Machine.execWriteLyc d s
  | .readDma => Sys2Proof.Machine.execReadDma s
  | .writeDma d => Sys2Proof.Machine.execWriteDma d s
  | .readBgp => Sys2Proof.Machine.execReadBgp s
  | .writeBgp d => Sys2Proof.Machine.execWriteBgp d s
  | .readObp0 => Sys2Proof.Machine.execReadObp0 s
  | .writeObp0 d => Sys2Proof.Machine.execWriteObp0 d s
  | .readObp1 => Sys2Proof.Machine.execReadObp1 s
  | .writeObp1 d => Sys2Proof.Machine.execWriteObp1 d s
  | .readWy => Sys2Proof.Machine.execReadWy s
  | .writeWy d => Sys2Proof.Machine.execWriteWy d s
  | .readWx => Sys2Proof.Machine.execReadWx s
  | .writeWx d => Sys2Proof.Machine.execWriteWx d s
  | .readVbk => Sys2Proof.Machine.execReadVbk s
  | .writeVbk d => Sys2Proof.Machine.execWriteVbk d s
  | .readBcps => Sys2Proof.Machine.execReadBcps s
  | .writeBcps d => Sys2Proof.Machine.execWriteBcps d s
  | .readBcpd => Sys2Proof.Machine.execReadBcpd s
  | .writeBcpd d => Sys2Proof.Machine.execWriteBcpd d s
  | .readOcps => Sys2Proof.Machine.execReadOcps s
  | .writeOcps d => Sys2Proof.Machine.execWriteOcps d s
  | .readOcpd => Sys2Proof.Machine.execReadOcpd s
  | .writeOcpd d => Sys2Proof.Machine.execWriteOcpd d s
  | .readUnmapped a => Sys2Proof.Machine.execReadUnmapped a s
  | .writeUnmapped a d => Sys2Proof.Machine.execWriteUnmapped a d s
  | .tick n => Sys2Proof.Machine.execTick n s
  | .ackVblank => Sys2Proof.Machine.execAckVblank s
  | .ackStat => Sys2Proof.Machine.execAckStat s
  | .setDma b => Sys2Proof.Machine.execSetDma b s

end Sys2Proof.Machine
end

