-- ==== Sys2Proof/Machine/Step.lean ====
section
/-!
DEFINITION. One step of the machine: the oldest pending request is taken, decoded and run (44_host_interface.md R173).
-/

namespace Sys2Proof.Machine

/-- One step. A faulted machine has stopped (R174); with no request pending the block does not move (R7, R173); a request
the decoder refuses takes no step (R73). -/
def step (s : State) : Host.Outcome State Fault Refusal :=
  match s.fault with
  | some f => .fault f
  | none =>
    match takeRequest s with
    | none => .next s
    | some (r, s') =>
      match decode r with
      | .error e => .refused (.malformedRequest e)
      | .ok i => exec i s'

/-- The state with the table word `w` as the next request (log entries 1 and 6). -/
def State.withFetchWord (s : State) (nbits w : Nat) : State := s.placeTableWord nbits w

end Sys2Proof.Machine
end

