-- ==== Sys2Proof/Machine/Text.lean ====
section
/-!
DEFINITION. The textual form of request sequences (30_encoding.md R75) and its one pseudo-instruction (R76), over lists of
characters. No operation of the block reads it.
-/

namespace Sys2Proof.Machine

/-- The value of a hexadecimal digit (either case). -/
def hexDigit (ch : Char) : Option Nat :=
  if '0' ≤ ch ∧ ch ≤ '9' then some (ch.toNat - '0'.toNat)
  else if 'A' ≤ ch ∧ ch ≤ 'F' then some (ch.toNat - 'A'.toNat + 10)
  else if 'a' ≤ ch ∧ ch ≤ 'f' then some (ch.toNat - 'a'.toNat + 10)
  else none

/-- The value of a decimal digit. -/
def decDigit (ch : Char) : Option Nat := if '0' ≤ ch ∧ ch ≤ '9' then some (ch.toNat - '0'.toNat) else none

/-- The value of a digit string in a base, most significant digit first. -/
def digits (base : Nat) (digit : Char → Option Nat) (acc : Nat) : List Char → Option Nat
  | [] => some acc
  | ch :: rest =>
    match digit ch with
    | none => none
    | some v => digits base digit (base * acc + v) rest

/-- Exactly `len` hexadecimal digits (R75). -/
def hexNumber (len : Nat) (cs : List Char) : Option Nat := if cs.length = len then digits 16 hexDigit 0 cs else none

/-- One decimal number (R75). -/
def decNumber (cs : List Char) : Option Nat := if cs = [] then none else digits 10 decDigit 0 cs

/-- Splits a line at spaces; a comma is a word of its own. `cur` holds the word being read, reversed. -/
def splitWords (cur : List Char) : List Char → List (List Char)
  | [] => if cur = [] then [] else [cur.reverse]
  | ch :: rest =>
    let done := if cur = [] then [] else [cur.reverse]
    if ch = ' ' then done ++ splitWords [] rest
    else if ch = ',' then done ++ [[',']] ++ splitWords [] rest
    else splitWords (ch :: cur) rest

/-- The words of a line, without its comment (R75). -/
def lineWords (line : List Char) : List (List Char) := splitWords [] (line.takeWhile (· ≠ ';'))

/-- A request from its kind, its address and its operand (R67). -/
def makeRequest (op : BitVec 3) (addr operand : Nat) : Request :=
  { word := op ++ BitVec.ofNat 16 addr, operand := operand }

/-- The request a line spells (R75, R76); a READ may carry an annotation `-> …`, which is a comment on its result. -/
def parseWords : List (List Char) → Option Request
  | [['A', 'V']] => some (makeRequest 0b011#3 0 0)
  | [['A', 'S']] => some (makeRequest 0b100#3 0 0)
  | [['N', 'O', 'P']] => some (makeRequest 0b010#3 0 0)
  | [['T'], n] => (decNumber n).map fun n => makeRequest 0b010#3 0 n
  | [['D', 'M', 'A'], ['0']] => some (makeRequest 0b101#3 0 0)
  | [['D', 'M', 'A'], ['1']] => some (makeRequest 0b101#3 0 1)
  | [['W'], a, [','], d] =>
    match hexNumber 4 a, hexNumber 2 d with
    | some a, some d => some (makeRequest 0b001#3 a d)
    | _, _ => none
  | ['R'] :: a :: [] => (hexNumber 4 a).map fun a => makeRequest 0b000#3 a 0
  | ['R'] :: a :: ['-', '>'] :: _ => (hexNumber 4 a).map fun a => makeRequest 0b000#3 a 0
  | _ => none

/-- The request one line of text spells (R75). -/
def parseLine (line : List Char) : Option Request := parseWords (lineWords line)

/-- The hexadecimal digit of a value below 16. -/
def hexChar (v : Nat) : Char := Char.ofNat (if v < 10 then '0'.toNat + v else 'A'.toNat + (v - 10))

/-- The `len` hexadecimal digits of a value. -/
def hexText : Nat → Nat → List Char
  | 0, _ => []
  | len + 1, v => hexText len (v / 16) ++ [hexChar (v % 16)]

/-- The decimal digits of a value; `len` bounds their number. -/
def decText : Nat → Nat → List Char
  | 0, _ => []
  | len + 1, v => (if v < 10 then [] else decText len (v / 10)) ++ [Char.ofNat ('0'.toNat + v % 10)]

/-- The textual form of an operation (R75). -/
def textOf (i : Instr) : List Char :=
  let addr := (i.mnemonic.address i.ownAddress).toNat
  match i.mnemonic with
  | .read _ => ['R', ' '] ++ hexText 4 addr
  | .write _ => ['W', ' '] ++ hexText 4 addr ++ [',', ' '] ++ hexText 2 i.operand
  | .tick => ['T', ' '] ++ decText (i.operand + 1) i.operand
  | .ackVblank => ['A', 'V']
  | .ackStat => ['A', 'S']
  | .setDma => ['D', 'M', 'A', ' '] ++ decText 1 i.operand

end Sys2Proof.Machine
end

