-- ==== Sys2Proof/Machine/Observe.lean ====
section
/-!
DEFINITION. What the host can observe between operations (44_host_interface.md R169 to R171), and runs of operations (R173).
-/

namespace Sys2Proof.Machine

/-- The framebuffer view (R170): the 92160 bytes, row-major, RGBA. -/
def framebufferView (s : State) : List Byte := (List.range fbSize).map s.fb.read

/-- What a model exposes after each operation (R171). -/
structure Observation where
  readByte    : Option Byte
  vblankIrq   : Bool
  statIrq     : Bool
  framebuffer : List Byte
  fault       : Option Fault
  deriving DecidableEq, Repr

/-- The observation function (R171). -/
def observe (s : State) : Observation :=
  { readByte := s.readByte, vblankIrq := s.vblankIrq, statIrq := s.statIrq, framebuffer := framebufferView s,
    fault := s.fault }

/-- A run: operations applied one after the other (R173), stopping at the first that takes no step. -/
def runOps : List Instr → State → Host.Outcome State Fault Refusal
  | [], s => .next s
  | i :: rest, s =>
    match exec i s with
    | .next s' => runOps rest s'
    | .fault f => .fault f
    | .refused r => .refused r

/-- What the host sees of a run's end. -/
def observeOutcome : Host.Outcome State Fault Refusal → Host.Outcome Observation Fault Refusal
  | .next s => .next (observe s)
  | .fault f => .fault f
  | .refused r => .refused r

/-- "Two states that agree on every future observation for every sequence of operations are equivalent" (R171). -/
def Equivalent (s t : State) : Prop :=
  ∀ ops : List Instr, observeOutcome (runOps ops s) = observeOutcome (runOps ops t)

end Sys2Proof.Machine
end

