-- ==== Sys2Proof/Safety.lean ====
section
/-!
DEFINITION. What a legal state is (10_state.md R49, R17; 41_pixel_pipeline.md R117), in the terms the statements use, and the
condition under which no fetch fault can occur (60_exceptions.md R176).
-/

namespace Sys2Proof.Machine

/-- `mode_clock < L(mode)` for Search, HBlank and VBlank (R17, R49 item 5). -/
abbrev State.clockInRange (s : State) : Prop :=
  (s.mode = .search → s.modeClock < searchLength) ∧ (s.mode = .hblank → s.modeClock < hblankLength s) ∧
    (s.mode = .vblank → s.modeClock < slotLength)

/-- The invariants of R49. -/
structure State.TimingInv (s : State) : Prop where
  /-- Item 1. -/
  disabled : s.displayEnabled = false → s.mode = .hblank ∧ s.modeClock = 0
  /-- Item 2. -/
  transfer : s.mode = .transfer → s.ly ≤ 143#8 ∧ s.cursor < 160
  /-- Item 3, the FIFO's length. -/
  fifo : s.fifo.length ≤ 16
  /-- Item 3, `discard` and `borrowed`: together at most `scx mod 8` of some Transfer entry. -/
  discards : s.discard + s.borrowed ≤ 7
  /-- Item 4, in VBlank. -/
  vblankLine : s.mode = .vblank → (144#8 ≤ s.ly ∧ s.ly ≤ 152#8) ∨ s.ly = 0#8
  /-- Item 4, in the other modes. -/
  visibleLine : s.mode ≠ .vblank → s.ly ≤ 143#8
  /-- Item 5. -/
  clock : s.clockInRange

/-- Every memory surface is in canonical form and within its size (R45). -/
structure State.MemoriesCanonical (s : State) : Prop where
  vram0 : s.vram0.wf ∧ s.vram0.within vramSize
  vram1 : s.vram1.wf ∧ s.vram1.within vramSize
  oam : s.oam.wf ∧ s.oam.within oamSize
  bgpal : s.bgpal.wf ∧ s.bgpal.within paletteSize
  objpal : s.objpal.wf ∧ s.objpal.within paletteSize
  fb : s.fb.wf ∧ s.fb.within fbSize

/-- The stored STAT byte holds bits 6:3 only (R27). -/
abbrev State.statSelReserved (s : State) : Prop := s.statSel &&& 0x87#8 = 0#8

/-- The fetcher state after `k` pseudo-cycles of a line (R100, R117). -/
def fetcherStateAt (k : Nat) : FetcherState :=
  match k % 8 with
  | 0 => .idle .tile
  | 1 => .readTile
  | 2 => .idle .low
  | 3 => .readLow
  | 4 => .idle .high
  | 5 => .readHigh
  | 6 => .push .advance
  | _ => .push .commit

/-- The FIFO's length after `k` pseudo-cycles of a line (R117 items 1 to 3). -/
def fifoLengthAt (k : Nat) : Nat := if k < 8 then 0 else if k < 16 then 8 else 15 - k % 8

/-- The pipeline's timeline (R117), as a relation between the clock of Transfer and the pipeline's state. -/
structure State.PipelineInStep (s : State) : Prop where
  fetcher : s.mode = .transfer → s.fstate = fetcherStateAt s.modeClock
  column : s.mode = .transfer → s.fcol = BitVec.ofNat 5 ((s.modeClock + 1) / 8)
  fifo : s.mode = .transfer → s.fifo.length = fifoLengthAt s.modeClock
  pops : s.mode = .transfer → s.cursor + s.borrowed = s.modeClock - 15
  order : s.mode = .transfer → 0 < s.cursor → s.discard = 0

/-- The fetcher is between the tile-number read and the last plane read of a tile (R100). -/
def holdsTileNumber (f : FetcherState) : Bool :=
  match f with
  | .idle .low => true
  | .readLow => true
  | .idle .high => true
  | .readHigh => true
  | .idle .tile => false
  | .readTile => false
  | .push _ => false

/-- R176's ways to avoid the fetch fault: tile-data mode 1, or no tile number of 0x80 or more in either tilemap and none
already read for the tile in progress, or the display disabled. -/
def State.fetchSafe (s : State) : Prop :=
  bit s.lcdc 4 = true ∨ s.displayEnabled = false ∨
    ((∀ i, 0x1800 ≤ i → i < 0x2000 → s.vram0.read i < 0x80#8) ∧
      (s.mode = .transfer → holdsTileNumber s.fstate = true → s.tileIdx < 0x80#8))

/-- The machine is running: no fault has been raised (R174). -/
abbrev State.running (s : State) : Prop := s.fault = none

/-- `s` with the pipeline's hidden state (R44), but not `borrowed`, taken from `u`. -/
def State.withPipelineOf (s u : State) : State :=
  { s with
    cursor := u.cursor, fstate := u.fstate, fcol := u.fcol, tileIdx := u.tileIdx, lo := u.lo, hi := u.hi
    fifo := u.fifo, discard := u.discard }

/-- `s` with everything that no pipeline or scheduler step may depend on taken from `u` (R115, R26, R47): LCDC bits 6, 5, 2,
1 and 0, the window and object registers, the enhanced palette ports and memories, the bank select, VRAM bank 1, OAM, the
DMA input, and the model's own fields. -/
def State.withStorageOf (s u : State) : State :=
  { s with
    lcdc := (s.lcdc &&& 0x98#8) ||| (u.lcdc &&& 0x67#8)
    wy := u.wy, wx := u.wx, obp0 := u.obp0, obp1 := u.obp1, vbk := u.vbk
    bcpsIdx := u.bcpsIdx, bcpsAi := u.bcpsAi, ocpsIdx := u.ocpsIdx, ocpsAi := u.ocpsAi
    vram1 := u.vram1, oam := u.oam, bgpal := u.bgpal, objpal := u.objpal
    dmaActive := u.dmaActive, readByte := u.readByte, requests := u.requests }

end Sys2Proof.Machine
end

