-- ==== Sys2Proof/Certificates/Slice0/Obligations.lean ====
section
/-!
DEFINITION. The statements for the provers. Each docstring names the rule or the section of spec/ that it formalises; where a
statement rests on a choice of the model, or on an inference the spec marks as its own, the docstring says so.
-/

open Sys2Proof Sys2Proof.Machine

/-! ## Encoding -/

/-- 30_encoding.md sections 1 to 3: decoding the encoded request of every well-formed operation gives it back, with every
operand at every value its type admits. -/
def Obligations.DecodeEncodeRoundTrip : Prop :=
  ∀ i : Instr, i.wellFormed = true → decode (encode i) = .ok i

/-- 30_encoding.md sections 1 to 3: an operation the decoder answers is well formed, and encoding it gives the word back, and
the operand where the kind names one. -/
def Obligations.EncodeDecodeRoundTrip : Prop :=
  ∀ (r : Request) (i : Instr), decode r = .ok i →
    i.wellFormed = true ∧ (encode i).word = r.word ∧ (i.mnemonic.namesOperand = true → (encode i).operand = r.operand)

/-- R72: the decoder selects exactly the mnemonic of the opcode map's row, and the operation it answers carries it; the two
UNMAPPED rows apply only when no other row of the same `op` matches (they come last in `opcodeMap`). -/
def Obligations.DecoderFollowsOpcodeMap : Prop :=
  (∀ (w : ReqWord) (m : Mnemonic), select w = .ok m ↔ mapMnemonic w = some m) ∧
    ∀ (r : Request) (i : Instr), decode r = .ok i → mapMnemonic r.word = some i.mnemonic

/-- 30_encoding.md sections 1 and 4 (R69's three conditions), with the model's own queue (log entry 1): a request is refused
exactly when one of the three conditions fails; and the step whose oldest request is refused is a refusal, so that the
requests behind it are not reached, which is the model's reading (log entry 7). -/
def Obligations.MalformedRequestsAreRefused : Prop :=
  (∀ r : Request, (∃ e, decode r = .error e) ↔
    ¬ ((opField r.word).toNat ≤ 5 ∧ (1 < (opField r.word).toNat → addrField r.word = 0#16) ∧
        ((opField r.word).toNat = 1 → r.operand < 256) ∧ ((opField r.word).toNat = 5 → r.operand < 2))) ∧
    ∀ (s : State) (r : Request) (rest : List Request) (e : DecodeError), s.running → s.requests = r :: rest →
      decode r = .error e → step s = .refused (.malformedRequest e)

/-- 30_encoding.md R67, R72 and 95_test_vectors.md L2-E: words written out from the spec's encoding decode to the operations
they stand for, one for every family of the opcode table. -/
def Obligations.SpecWordsDecode : Prop :=
  decode ⟨0x1FF40#19, 0x91⟩ = .ok (.writeLcdc 0x91#8) ∧ decode ⟨0x08123#19, 0⟩ = .ok (.readVram 0x8123#16) ∧
  decode ⟨0x19FFF#19, 0x22⟩ = .ok (.writeVram 0x9FFF#16 0x22#8) ∧ decode ⟨0x0FE9F#19, 0⟩ = .ok (.readOam 0xFE9F#16) ∧
  decode ⟨0x0FEA0#19, 0⟩ = .ok (.readUnmapped 0xFEA0#16) ∧ decode ⟨0x1FE10#19, 0x42⟩ = .ok (.writeOam 0xFE10#16 0x42#8) ∧
  decode ⟨0x0FF44#19, 0⟩ = .ok .readLy ∧ decode ⟨0x0FF69#19, 0⟩ = .ok .readBcpd ∧
  decode ⟨0x1FF4F#19, 1⟩ = .ok (.writeVbk 0x01#8) ∧ decode ⟨0x20000#19, 456⟩ = .ok (.tick 456) ∧
  decode ⟨0x30000#19, 0⟩ = .ok .ackVblank ∧ decode ⟨0x40000#19, 0⟩ = .ok .ackStat ∧
  decode ⟨0x50000#19, 1⟩ = .ok (.setDma true) ∧ decode ⟨0x60000#19, 0⟩ = .error (.reservedOp 6#3) ∧
  decode ⟨0x20001#19, 5⟩ = .error (.nonzeroAddress 2#3 0x0001#16)

/-- R75, the textual form (the spec's decision D30): the text of every well-formed operation spells its request. -/
def Obligations.TextSpellsTheRequest : Prop :=
  ∀ i : Instr, i.wellFormed = true → parseLine (textOf i) = some (encode i)

/-! ## Steps -/

/-- 44_host_interface.md section 3, with the model's own request queue (log entry 1): a step of a running machine whose
oldest request decodes to an operation is that operation on the state without the request; with no request pending a
running machine does not move. -/
def Obligations.StepRunsTheDecodedRequest : Prop :=
  (∀ (s : State) (r : Request) (rest : List Request) (i : Instr), s.running → s.requests = r :: rest → decode r = .ok i →
    step s = exec i { s with requests := rest }) ∧
  ∀ s : State, s.running → s.requests = [] → step s = .next s

/-- 60_exceptions.md section 1 (item 3 of the faulted state; log entry 3): after a fault no step and no operation takes any
step; each answers the recorded reason. -/
def Obligations.FaultStopsEveryOperation : Prop :=
  ∀ (s : State) (f : Fault), s.fault = some f → step s = .fault f ∧ ∀ i : Instr, exec i s = .fault f

/-! ## Power-on -/

/-- R188: every field at power-on, every memory byte zero, and what the bus reads under this state (U = `UNUSED_BIT_READ`);
no invariant of R49 fails. The values are the spec's decisions D5, D32, D37 and D39. -/
def Obligations.PowerOnState : Prop :=
  let s := State.reset
  let reads (i : Instr) (v : Byte) : Prop := exec i s = .next { s with readByte := some v }
  (s.mode = .hblank ∧ s.modeClock = 0 ∧ s.ly = 0#8 ∧ s.cursor = 0 ∧ s.borrowed = 0 ∧ s.discard = 0) ∧
  (s.lcdc = 0#8 ∧ s.statSel = 0#8 ∧ s.scy = 0#8 ∧ s.scx = 0#8 ∧ s.lyc = 0#8 ∧ s.bgp = 0#8 ∧ s.obp0 = 0#8 ∧ s.obp1 = 0#8 ∧
    s.wy = 0#8 ∧ s.wx = 0#8 ∧ s.vbk = 0#1) ∧
  (s.bcpsIdx = 0#6 ∧ s.bcpsAi = 0#1 ∧ s.ocpsIdx = 0#6 ∧ s.ocpsAi = 0#1) ∧
  (s.fstate = .idle .tile ∧ s.fcol = 0#5 ∧ s.tileIdx = 0#8 ∧ s.lo = 0#8 ∧ s.hi = 0#8 ∧ s.fifo = []) ∧
  (s.vblankIrq = false ∧ s.statIrq = false ∧ s.dmaActive = false ∧ s.fault = none) ∧
  (∀ a, s.vram0.read a = 0#8 ∧ s.vram1.read a = 0#8 ∧ s.oam.read a = 0#8 ∧ s.bgpal.read a = 0#8 ∧ s.objpal.read a = 0#8 ∧
    s.fb.read a = 0#8) ∧
  (reads .readLcdc 0#8 ∧ reads .readLy 0#8 ∧ reads .readScy 0#8 ∧ reads .readScx 0#8 ∧ reads .readLyc 0#8 ∧
    reads .readBgp 0#8 ∧ reads .readObp0 0#8 ∧ reads .readObp1 0#8 ∧ reads .readWy 0#8 ∧ reads .readWx 0#8 ∧
    reads .readBcpd 0#8 ∧ reads .readOcpd 0#8 ∧ reads .readDma 0xFF#8) ∧
  (reads .readStat (if Config.given.unusedBitRead = 1#1 then 0x84#8 else 0x04#8) ∧
    reads .readVbk (if Config.given.unusedBitRead = 1#1 then 0xFE#8 else 0x00#8) ∧
    reads .readBcps (if Config.given.unusedBitRead = 1#1 then 0x40#8 else 0x00#8) ∧
    reads .readOcps (if Config.given.unusedBitRead = 1#1 then 0x40#8 else 0x00#8)) ∧
  s.TimingInv

/-- 70_reset_and_hazards.md section 1 and 10_state.md section 8: the power-on state meets every invariant that the statements
below keep. -/
def Obligations.PowerOnMeetsTheInvariants : Prop :=
  State.reset.TimingInv ∧ State.reset.MemoriesCanonical ∧ State.reset.PipelineInStep ∧ State.reset.statSelReserved

/-! ## Invariants that every step keeps -/

/-- 10_state.md section 8 (R49, which the spec marks as derived): every step keeps the timing invariants, from every state
that meets them; they hold in the faulted state too. -/
def Obligations.StepKeepsTimingInvariants : Prop :=
  ∀ s t : State, s.TimingInv → step s = .next t → t.TimingInv

/-- 10_state.md section 7 (sizes of the memory surfaces) and log entry 10 (their canonical form): every step keeps every
memory canonical and within its size. -/
def Obligations.StepKeepsMemoriesCanonical : Prop :=
  ∀ s t : State, s.TimingInv → s.MemoriesCanonical → step s = .next t → t.MemoriesCanonical

/-- 41_pixel_pipeline.md section 5 (R117, which the spec marks as derived): every step keeps the pipeline on its timeline. -/
def Obligations.StepKeepsPipelineInStep : Prop :=
  ∀ s t : State, s.TimingInv → s.PipelineInStep → step s = .next t → t.PipelineInStep

/-- 10_state.md section 5, STAT (log entry 11): no step puts a bit outside 6:3 into the stored STAT byte. -/
def Obligations.StepKeepsReservedStatBitsClear : Prop :=
  ∀ s t : State, s.statSelReserved → step s = .next t → t.statSelReserved

/-! ## Who may change what -/

/-- R16: the mode is written only by the scheduler (TICK) and by the display-off reset (an LCDC write that clears bit 7 while
it is set); no other bus write sets it, nor the mode clock, nor the line counter. -/
def Obligations.ModeChangesOnlyByTickOrDisplayOff : Prop :=
  ∀ (i : Instr) (s t : State), exec i s = .next t → (t.mode, t.modeClock, t.ly) ≠ (s.mode, s.modeClock, s.ly) →
    (∃ n, i = .tick n) ∨ ∃ d, i = .writeLcdc d ∧ bit s.lcdc 7 = true ∧ bit d 7 = false

/-- R46: the latches are 0 at power-on, set only by TICK, cleared only by their ACK operation, and a set latch stays set
under every other operation. -/
def Obligations.InterruptLatchWriters : Prop :=
  State.reset.vblankIrq = false ∧ State.reset.statIrq = false ∧
  ∀ (i : Instr) (s t : State), exec i s = .next t →
    (s.vblankIrq = false → t.vblankIrq = true → ∃ n, i = .tick n) ∧ (s.vblankIrq = true → t.vblankIrq = false → i = .ackVblank) ∧
    (s.statIrq = false → t.statIrq = true → ∃ n, i = .tick n) ∧ (s.statIrq = true → t.statIrq = false → i = .ackStat)

/-- 20_memory.md section 1: each memory surface is written only by the operations the section names for it: VRAM, OAM and the
palettes by their write operations, the framebuffer by TICK and the display-off reset. -/
def Obligations.MemorySurfaceWriters : Prop :=
  ∀ (i : Instr) (s t : State), exec i s = .next t →
    ((t.vram0 ≠ s.vram0 ∨ t.vram1 ≠ s.vram1) → ∃ a d, i = .writeVram a d) ∧
    (t.oam ≠ s.oam → ∃ a d, i = .writeOam a d) ∧
    (t.bgpal ≠ s.bgpal → ∃ d, i = .writeBcpd d) ∧
    (t.objpal ≠ s.objpal → ∃ d, i = .writeOcpd d) ∧
    (t.fb ≠ s.fb → (∃ n, i = .tick n) ∨ ∃ d, i = .writeLcdc d ∧ bit s.lcdc 7 = true ∧ bit d 7 = false)

/-- The frame of TICK (40_scheduler.md sections 1 to 4, 41_pixel_pipeline.md section 2): it changes no register of the
register bank but the line counter, no memory but the framebuffer, not the DMA input, and not the model's own fields. -/
def Obligations.TickFrame : Prop :=
  ∀ (n : Nat) (s t : State), exec (.tick n) s = .next t →
    t = { s with
          mode := t.mode, modeClock := t.modeClock, ly := t.ly, cursor := t.cursor, borrowed := t.borrowed
          fstate := t.fstate, fcol := t.fcol, tileIdx := t.tileIdx, lo := t.lo, hi := t.hi, fifo := t.fifo
          discard := t.discard, fb := t.fb, vblankIrq := t.vblankIrq, statIrq := t.statIrq, fault := t.fault }

/-- 20_memory.md section 3 (R60): a READ changes nothing but the byte it returns; only READ_BCPD and READ_OCPD move their
index, and only READ_UNMAPPED raises a fault. -/
def Obligations.ReadsHaveNoOtherSideEffect : Prop :=
  ∀ (i : Instr) (tgt : Target) (s t : State), i.mnemonic = .read tgt → exec i s = .next t →
    t = { s with
          readByte := t.readByte
          bcpsIdx := if tgt = .reg .bcpd then t.bcpsIdx else s.bcpsIdx
          ocpsIdx := if tgt = .reg .ocpd then t.ocpsIdx else s.ocpsIdx
          fault := if tgt = .unmapped then t.fault else none }

/-! ## TICK: the scheduler -/

/-- R79 and R76: with the display disabled TICK changes no state, for every n; and `NOP`, which is `T 0`, changes no state
at all. -/
def Obligations.TickWithoutEffect : Prop :=
  (∀ (s : State) (n : Nat), s.running → bit s.lcdc 7 = false → exec (.tick n) s = .next s) ∧
  decode ⟨0x20000#19, 0⟩ = .ok Instr.nop ∧ ∀ s : State, s.running → exec Instr.nop s = .next s

/-- R81 and R85: Search only advances its clock until the cycle that makes it 80, and that cycle enters Transfer with the
line's pipeline reset and nothing else changed (no interrupt; the latches `tile_idx`, `lo` and `hi` kept). -/
def Obligations.TickInSearch : Prop :=
  ∀ s : State, s.running → s.displayEnabled = true → s.mode = .search → s.modeClock < 80 →
    (∀ n, s.modeClock + n < 80 → exec (.tick n) s = .next { s with modeClock := s.modeClock + n }) ∧
    exec (.tick (80 - s.modeClock)) s =
      .next { s with
              mode := .transfer, modeClock := 0, cursor := 0, discard := s.scx.toNat % 8, borrowed := 0
              fstate := .idle .tile, fcol := 0#5, fifo := [] }

/-- R83, R87, R88, R89, R91: HBlank only advances its clock until the cycle that makes it 204 − borrowed; that cycle
increments the line, checks coincidence against the new line, and enters VBlank (with its latch) above line 143 or Search. -/
def Obligations.TickInHBlank : Prop :=
  ∀ s : State, s.running → s.displayEnabled = true → s.mode = .hblank → s.ly ≤ 143#8 → s.modeClock < 204 - s.borrowed →
    (∀ n, s.modeClock + n < 204 - s.borrowed → exec (.tick n) s = .next { s with modeClock := s.modeClock + n }) ∧
    exec (.tick (204 - s.borrowed - s.modeClock)) s =
      .next { s with
              mode := if s.ly = 143#8 then .vblank else .search
              modeClock := 0
              ly := s.ly + 1#8
              vblankIrq := s.vblankIrq || s.ly == 143#8
              statIrq := s.statIrq || (s.ly + 1#8 == s.lyc && bit s.statSel 6) ||
                (if s.ly = 143#8 then bit s.statSel 4 else bit s.statSel 5) }

/-- R84, R90, R91: a VBlank slot only advances its clock until the cycle that makes it 456; then the slot that reads as line 0
enters Search without a coincidence check, and every other slot moves to the next line, 153 being reset to 0 at once and
checked as 0. -/
def Obligations.TickInVBlank : Prop :=
  ∀ s : State, s.running → s.displayEnabled = true → s.mode = .vblank → s.modeClock < 456 →
    (∀ n, s.modeClock + n < 456 → exec (.tick n) s = .next { s with modeClock := s.modeClock + n }) ∧
    (s.ly = 0#8 → exec (.tick (456 - s.modeClock)) s =
      .next { s with mode := .search, modeClock := 0, statIrq := s.statIrq || bit s.statSel 5 }) ∧
    (s.ly = 152#8 → exec (.tick (456 - s.modeClock)) s =
      .next { s with modeClock := 0, ly := 0#8, statIrq := s.statIrq || (s.lyc == 0#8 && bit s.statSel 6) }) ∧
    (144#8 ≤ s.ly → s.ly < 152#8 → exec (.tick (456 - s.modeClock)) s =
      .next { s with modeClock := 0, ly := s.ly + 1#8, statIrq := s.statIrq || (s.ly + 1#8 == s.lyc && bit s.statSel 6) })

/-- R82, R86, R99: a cycle of Transfer is one fetcher step and then one FIFO step on what it left; it advances the clock, and
when it makes the cursor 160 it enters HBlank, with the HBlank event. A fault in the fetcher step ends the cycle there. -/
def Obligations.TickInTransfer : Prop :=
  ∀ s : State, s.running → s.displayEnabled = true → s.mode = .transfer →
    let f := fetcherStep s
    let p := fifoStep Config.given f
    (f.fault ≠ none → exec (.tick 1) s = .next f) ∧
    (f.fault = none → p.cursor ≠ 160 → exec (.tick 1) s = .next { p with modeClock := s.modeClock + 1 }) ∧
    (f.fault = none → p.cursor = 160 → exec (.tick 1) s =
      .next { p with mode := .hblank, modeClock := 0, statIrq := s.statIrq || bit s.statSel 3 })

/-- 40_scheduler.md section 5 (R94, which the spec marks as derived): no cycles are lost or duplicated; a TICK(a) that does
not fault, followed by TICK(b), is TICK(a + b). -/
def Obligations.TicksCompose : Prop :=
  ∀ (s t : State) (a b : Nat), s.TimingInv → exec (.tick a) s = .next t → t.fault = none →
    exec (.tick b) t = exec (.tick (a + b)) s

/-- 41_pixel_pipeline.md section 5 (R117, which the spec marks as derived): the state after k pseudo-cycles of a line, for
every k up to the end of Transfer at 175 + scx mod 8, where HBlank is entered. -/
def Obligations.TransferTimeline : Prop :=
  ∀ (s : State) (k : Nat), s.running → s.displayEnabled = true → s.ly ≤ 143#8 → k ≤ 175 + s.scx.toNat % 8 →
    ∃ t, exec (.tick k) (enterTransfer s) = .next t ∧ ((enterTransfer s).fetchSafe → t.fault = none) ∧
      (t.fault = none →
        t.ly = s.ly ∧ t.fstate = fetcherStateAt k ∧ t.fcol = BitVec.ofNat 5 ((k + 1) / 8) ∧
        t.fifo.length = fifoLengthAt k ∧ t.cursor = k - 15 - s.scx.toNat % 8 ∧
        t.borrowed = min (k - 15) (s.scx.toNat % 8) ∧ t.borrowed + t.discard = s.scx.toNat % 8 ∧
        (k < 175 + s.scx.toNat % 8 → t.mode = .transfer ∧ t.modeClock = k) ∧
        (k = 175 + s.scx.toNat % 8 →
          t.mode = .hblank ∧ t.modeClock = 0 ∧ t.cursor = 160 ∧ t.borrowed = s.scx.toNat % 8 ∧ t.fcol = 22#5))

/-- 40_scheduler.md section 5 (R95, which the spec marks as derived; its decision D41): with b = scx mod 8, Transfer starts
after 80 cycles of a visible line, HBlank after 175 + b more, and the next line after 204 − b more, 459 in all. -/
def Obligations.VisibleLineLength : Prop :=
  ∀ s : State, s.running → s.TimingInv → s.displayEnabled = true → s.mode = .search → s.modeClock = 0 →
    (∃ t, exec (.tick 80) s = .next t ∧ t.mode = .transfer ∧ t.modeClock = 0 ∧ t.ly = s.ly) ∧
    (∃ t, exec (.tick (80 + (175 + s.scx.toNat % 8))) s = .next t ∧ (s.fetchSafe → t.fault = none) ∧
      (t.fault = none → t.mode = .hblank ∧ t.modeClock = 0 ∧ t.ly = s.ly ∧ t.borrowed = s.scx.toNat % 8)) ∧
    ∃ t, exec (.tick 459) s = .next t ∧ (s.fetchSafe → t.fault = none) ∧
      (t.fault = none → t.modeClock = 0 ∧ t.ly = s.ly + 1#8 ∧ t.mode = if s.ly = 143#8 then .vblank else .search)

/-- 40_scheduler.md section 5 (R96, which the spec marks as derived; its decision D41): from the start of Search at line 0 a
frame without a fault takes 70656 cycles, and it sets the vertical-blank latch. -/
def Obligations.FrameLength : Prop :=
  ∀ s : State, s.running → s.TimingInv → s.displayEnabled = true → s.mode = .search → s.modeClock = 0 → s.ly = 0#8 →
    ∃ t, exec (.tick 70656) s = .next t ∧ (s.fetchSafe → t.fault = none) ∧
      (t.fault = none → t.mode = .search ∧ t.modeClock = 0 ∧ t.ly = 0#8 ∧ t.vblankIrq = true)

/-- 40_scheduler.md section 5 (R98) and 70_reset_and_hazards.md section 4 (both marked as derived): from the state the
display-off reset leaves, once enabled, 204 cycles lead to Search at line 1 and 70401 to Search at line 0. -/
def Obligations.FirstFrameAfterEnable : Prop :=
  ∀ s : State, s.running → s.TimingInv → s.displayEnabled = true → s.mode = .hblank → s.modeClock = 0 → s.ly = 0#8 →
    s.borrowed = 0 →
    (∃ t, exec (.tick 204) s = .next t ∧ t.fault = none ∧ t.mode = .search ∧ t.modeClock = 0 ∧ t.ly = 1#8) ∧
    ∃ t, exec (.tick 70401) s = .next t ∧ (s.fetchSafe → t.fault = none) ∧
      (t.fault = none → t.mode = .search ∧ t.modeClock = 0 ∧ t.ly = 0#8)

/-- R92: in one cycle `stat_irq` becomes or stays 1 exactly when it was 1 or one of the four events happens: entering Search
(bit 5), entering HBlank (bit 3), entering VBlank (bit 4), or a line increment to a line equal to LYC (bit 6). Entering
Transfer raises none; no other operation sets it. `vblank_irq` is set exactly by entering VBlank, at line 144 (R88). -/
def Obligations.InterruptRequestSources : Prop :=
  (∀ s : State, s.running → s.TimingInv → s.displayEnabled = true →
    ∃ t, exec (.tick 1) s = .next t ∧
      (t.statIrq = true ↔ s.statIrq = true ∨
        (s.mode ≠ .search ∧ t.mode = .search ∧ bit s.statSel 5 = true) ∨
        (s.mode ≠ .hblank ∧ t.mode = .hblank ∧ bit s.statSel 3 = true) ∨
        (s.mode ≠ .vblank ∧ t.mode = .vblank ∧ bit s.statSel 4 = true) ∨
        (t.ly ≠ s.ly ∧ t.ly = s.lyc ∧ bit s.statSel 6 = true)) ∧
      (t.vblankIrq = true ↔ s.vblankIrq = true ∨ (s.mode ≠ .vblank ∧ t.mode = .vblank)) ∧
      (s.mode ≠ .vblank → t.mode = .vblank → s.mode = .hblank ∧ t.ly = 144#8)) ∧
  ∀ (i : Instr) (s t : State), exec i s = .next t → s.statIrq = false → t.statIrq = true → ∃ n, i = .tick n

/-- 40_scheduler.md section 5 (R97, marked as derived): in one cycle the line counter stays, goes up by one, or goes from 152
to 0; the bus never reads 153 from it. -/
def Obligations.LineCounterSequence : Prop :=
  ∀ s : State, s.running → s.TimingInv →
    (∃ t, exec (.tick 1) s = .next t ∧ (t.ly = s.ly ∨ (t.ly = s.ly + 1#8 ∧ s.ly < 152#8) ∨ (s.ly = 152#8 ∧ t.ly = 0#8))) ∧
    exec .readLy s = .next { s with readByte := some s.ly } ∧ s.ly ≤ 152#8

/-! ## The pixel pipeline -/

/-- R103: the tilemap address, in the reading that counts tiles and in the one that counts pixels. -/
def Obligations.TilemapAddress : Prop :=
  ∀ s : State,
    mapAddr s = (if bit s.lcdc 3 = true then 0x9C00 else 0x9800) + 32 * ((s.ly.toNat + s.scy.toNat) % 256 / 8) +
      (s.scx.toNat / 8 + s.fcol.toNat) % 32 ∧
    (s.scx.toNat / 8 + s.fcol.toNat) % 32 = (s.scx.toNat + 8 * s.fcol.toNat) / 8 % 32 ∧
    0x9800 ≤ mapAddr s ∧ mapAddr s ≤ 0x9FFF

/-- R104 and R105: the tile-data address in both modes (in mode 0 it equals 0x8000 + 16·sext8(tile_idx), and tile numbers
0x80 and above lie in 0x7800–0x7FF0), and the addresses of the two planes of the row. -/
def Obligations.TileDataAddress : Prop :=
  ∀ s : State,
    (bit s.lcdc 4 = true → tileAddr s = 0x8000 + 16 * s.tileIdx.toNat) ∧
    (bit s.lcdc 4 = false →
      (tileAddr s : Int) = 0x8000 + 16 * s.tileIdx.toInt ∧ (tileAddr s : Int) = 0x7800 + 16 * (s.tileIdx.toInt + 128) ∧
      (s.tileIdx.toNat < 0x80 → 0x8000 ≤ tileAddr s ∧ tileAddr s ≤ 0x87F0) ∧
      (0x80 ≤ s.tileIdx.toNat → 0x7800 ≤ tileAddr s ∧ tileAddr s ≤ 0x7FF0)) ∧
    lowAddr s = tileAddr s + 2 * ((s.ly.toNat + s.scy.toNat) % 8) ∧ highAddr s = lowAddr s + 1

/-- R101, R102, R106, R107, R108, R109: what each fetcher step writes, and that it writes nothing else. -/
def Obligations.FetcherSteps : Prop :=
  ∀ s : State,
    (∀ next, s.fstate = .idle next → fetcherStep s =
      { s with fstate := match next with | .tile => .readTile | .low => .readLow | .high => .readHigh }) ∧
    (s.fstate = .readTile →
      fetcherStep s = { s with tileIdx := s.vram0.read (mapAddr s - 0x8000), fstate := .idle .low }) ∧
    (s.fstate = .readLow → 0x8000 ≤ lowAddr s →
      fetcherStep s = { s with lo := s.vram0.read (lowAddr s - 0x8000), fstate := .idle .high }) ∧
    (s.fstate = .readLow → lowAddr s < 0x8000 → fetcherStep s = { s with fault := some (.fetchFault (lowAddr s)) }) ∧
    (s.fstate = .readHigh → 0x8000 ≤ highAddr s →
      fetcherStep s = { s with hi := s.vram0.read (highAddr s - 0x8000), fstate := .push .advance }) ∧
    (s.fstate = .readHigh → highAddr s < 0x8000 → fetcherStep s = { s with fault := some (.fetchFault (highAddr s)) }) ∧
    (s.fstate = .push .advance →
      fetcherStep s = { s with fcol := BitVec.ofNat 5 ((s.fcol.toNat + 1) % 32), fstate := .push .commit }) ∧
    (s.fstate = .push .commit → s.fifo.length ≤ 8 →
      fetcherStep s = { s with fifo := s.fifo ++ (List.range 8).map (pixel s.lo s.hi), fstate := .idle .tile }) ∧
    (s.fstate = .push .commit → 8 < s.fifo.length → fetcherStep s = s)

/-- R112, R113, R114: the FIFO step does nothing at 8 entries or fewer; above, it discards while `discard` is positive and
emits to (cursor, ly) through the monochrome palette otherwise. -/
def Obligations.FifoSteps : Prop :=
  ∀ (c : Config) (s : State) (v : ColorIndex) (rest : List ColorIndex),
    (s.fifo.length ≤ 8 → fifoStep c s = s) ∧
    (8 < s.fifo.length → s.fifo = v :: rest → 0 < s.discard →
      fifoStep c s = { s with fifo := rest, discard := s.discard - 1, borrowed := s.borrowed + 1 }) ∧
    (8 < s.fifo.length → s.fifo = v :: rest → s.discard = 0 →
      fifoStep c s =
        { s with
          fifo := rest, fb := fbWrite s.fb s.cursor s.ly.toNat (monoResolve c s.bgp v), cursor := s.cursor + 1 })

/-- R110: pixel i takes bit 7 − i of each plane, the high plane giving bit 1 of the color index and the low plane bit 0; the
eight pixels are pushed leftmost first. -/
def Obligations.PlanesCombineIntoPixels : Prop :=
  ∀ lo hi : Byte, (tilePixels lo hi).length = 8 ∧
    ∀ i, i < 8 → ∃ v, (tilePixels lo hi)[i]? = some v ∧
      v.toNat = 2 * (hi.toNat / 2 ^ (7 - i) % 2) + lo.toNat / 2 ^ (7 - i) % 2

/-- R114 with R54: a cycle that emits leaves the pixel (cursor, ly) with the shade of the popped index, every other pixel of
the screen as it was, and every byte outside that pixel as it was. -/
def Obligations.EmittedPixel : Prop :=
  ∀ (s : State) (v : ColorIndex) (rest : List ColorIndex), s.running → s.MemoriesCanonical → s.displayEnabled = true →
    s.mode = .transfer → s.ly ≤ 143#8 → s.cursor < 160 → (fetcherStep s).fault = none → (fetcherStep s).fifo = v :: rest →
    8 ≤ rest.length → s.discard = 0 →
    ∃ t, exec (.tick 1) s = .next t ∧ t.cursor = s.cursor + 1 ∧
      fbRead t.fb s.cursor s.ly.toNat = Config.given.monoShade ((s.bgp >>> (2 * v.toNat)).setWidth 2) ∧
      (∀ x y, x < 160 → y < 144 → (x, y) ≠ (s.cursor, s.ly.toNat) → fbRead t.fb x y = fbRead s.fb x y) ∧
      ∀ a, a < 4 * (160 * s.ly.toNat + s.cursor) ∨ 4 * (160 * s.ly.toNat + s.cursor) + 4 ≤ a → t.fb.read a = s.fb.read a

/-- 60_exceptions.md section 1 (the first sentence of R176, which the spec marks as derived; log entry 16): a cycle raises a
fetch fault exactly when a plane read runs in tile-data mode 0 with a tile number of 0x80 or more; the fault records the
computed address, in 0x7800–0x7FFF, and the cycle changes nothing else. -/
def Obligations.FetchFaultCondition : Prop :=
  ∀ s : State, s.running → s.displayEnabled = true → s.mode = .transfer →
    ∃ t, exec (.tick 1) s = .next t ∧
      (t.fault ≠ none ↔ (s.fstate = .readLow ∨ s.fstate = .readHigh) ∧ bit s.lcdc 4 = false ∧ 0x80#8 ≤ s.tileIdx) ∧
      (t.fault ≠ none → ∃ a, 0x7800 ≤ a ∧ a ≤ 0x7FFF ∧ t = { s with fault := some (.fetchFault a) } ∧
        a = if s.fstate = .readLow then lowAddr s else highAddr s)

/-- 60_exceptions.md section 1 (R176's ways to avoid the fault; marked as derived): a machine in tile-data mode 1, or with no
tile number of 0x80 or more in either map, or with the display disabled, faults in no TICK, and stays so. -/
def Obligations.FetchSafeTicksNeverFault : Prop :=
  ∀ (s : State) (n : Nat), s.running → s.TimingInv → s.fetchSafe →
    ∃ t, exec (.tick n) s = .next t ∧ t.fault = none ∧ t.fetchSafe

/-- 41_pixel_pipeline.md section 5 (R118, marked as derived): on the pipeline's timeline every commit finds room. -/
def Obligations.CommitNeverStalls : Prop :=
  ∀ s : State, s.TimingInv → s.PipelineInStep → s.mode = .transfer → s.fstate = .push .commit →
    (s.fifo.length = 0 ∨ s.fifo.length = 8) ∧ (fetcherStep s).fifo.length = s.fifo.length + 8 ∧
      (fetcherStep s).fstate = .idle .tile

/-! ## The color resolver -/

/-- R119: the monochrome resolver looks up shade (pal >> 2v) & 3; and the palettes 0xE4, 0x1B, 0x00 and 0xFF map index k to
shade k, 3 − k, 0 and 3. -/
def Obligations.MonochromeShade : Prop :=
  ∀ (c : Config) (v : ColorIndex),
    (∀ pal : Byte, monoResolve c pal v = c.monoShade (BitVec.ofNat 2 (pal.toNat / 2 ^ (2 * v.toNat) % 4))) ∧
    monoResolve c 0xE4#8 v = c.monoShade v ∧ monoResolve c 0x1B#8 v = c.monoShade (3#2 - v) ∧
    monoResolve c 0x00#8 v = c.monoShade 0#2 ∧ monoResolve c 0xFF#8 v = c.monoShade 3#2

/-- R121: the channel expansion is 8c + c div 4, strictly increasing, with its corner values. -/
def Obligations.ChannelExpansion : Prop :=
  (∀ c : BitVec 5, (expand5 c).toNat = 8 * c.toNat + c.toNat / 4) ∧
  (∀ c d : BitVec 5, c < d → expand5 c < expand5 d) ∧
  expand5 0#5 = 0#8 ∧ expand5 1#5 = 8#8 ∧ expand5 16#5 = 132#8 ∧ expand5 30#5 = 247#8 ∧ expand5 31#5 = 255#8

/-- R53, R122, R123: the enhanced color of palette p mod 8 and color c mod 4 is the expansion of the three 5-bit fields of its
little-endian word, red lowest, with alpha 0xFF; bit 15 of the word has no effect. -/
def Obligations.EnhancedColor : Prop :=
  ∀ (mem : Memory) (p c : Nat),
    let w := (mem.read (8 * (p % 8) + 2 * (c % 4))).toNat + 256 * (mem.read (8 * (p % 8) + 2 * (c % 4) + 1)).toNat
    let color := enhResolve mem p c
    color.r.toNat = 8 * (w % 32) + w % 32 / 4 ∧ color.g.toNat = 8 * (w / 32 % 32) + w / 32 % 32 / 4 ∧
    color.b.toNat = 8 * (w / 1024 % 32) + w / 1024 % 32 / 4 ∧ color.a = 0xFF#8 ∧
    enhResolve mem (p % 8) (c % 4) = color

/-! ## The bus arbiter -/

/-- R126, R127: a VRAM read returns 0x00 in Transfer while DMA is not active, and otherwise the byte of the selected bank
(bank 0 in the monochrome mode, VBK in the enhanced mode); it changes nothing else. A VRAM write is dropped in Transfer with
the display enabled; otherwise it stores `d` in the selected bank: a later read gives `d` there, and every other byte of both
banks and every other part of the state is as before. -/
def Obligations.VramAccess : Prop :=
  ∀ (s : State) (a : Addr) (d : Byte), s.running → s.MemoriesCanonical → inVramWindow a = true →
    decode ⟨(0b000#3 ++ a : ReqWord), 0⟩ = .ok (.readVram a) ∧ decode ⟨(0b001#3 ++ a : ReqWord), d.toNat⟩ = .ok (.writeVram a d) ∧
    (s.mode = .transfer → s.dmaActive = false → exec (.readVram a) s = .next { s with readByte := some 0x00#8 }) ∧
    (s.mode ≠ .transfer ∨ s.dmaActive = true → exec (.readVram a) s =
      .next { s with
              readByte := some ((if Config.given.colorMode = .enhanced ∧ s.vbk = 1#1 then s.vram1 else s.vram0).read
                (a.toNat - 0x8000)) }) ∧
    (bit s.lcdc 7 = true → s.mode = .transfer → exec (.writeVram a d) s = .next s) ∧
    (bit s.lcdc 7 = false ∨ s.mode ≠ .transfer →
      ∃ t, exec (.writeVram a d) s = .next t ∧ t = { s with vram0 := t.vram0, vram1 := t.vram1 } ∧
        (if Config.given.colorMode = .enhanced ∧ s.vbk = 1#1 then
          t.vram0 = s.vram0 ∧ ∀ i, t.vram1.read i = if i = a.toNat - 0x8000 then d else s.vram1.read i
        else t.vram1 = s.vram1 ∧ ∀ i, t.vram0.read i = if i = a.toNat - 0x8000 then d else s.vram0.read i) ∧
        exec (.readVram a) t =
          .next { t with readByte := some (if s.mode = .transfer ∧ s.dmaActive = false then 0x00#8 else d) })

/-- R128, R129: an OAM read returns 0x00 in Search and Transfer while DMA is not active, and otherwise the byte; it changes
nothing else. An OAM write is dropped in Search and Transfer with the display enabled; otherwise it stores `d` and changes no
other byte of OAM and no other part of the state. -/
def Obligations.OamAccess : Prop :=
  ∀ (s : State) (a : Addr) (d : Byte), s.running → s.MemoriesCanonical → inOamWindow a = true →
    decode ⟨(0b000#3 ++ a : ReqWord), 0⟩ = .ok (.readOam a) ∧ decode ⟨(0b001#3 ++ a : ReqWord), d.toNat⟩ = .ok (.writeOam a d) ∧
    (s.mode = .search ∨ s.mode = .transfer → s.dmaActive = false →
      exec (.readOam a) s = .next { s with readByte := some 0x00#8 }) ∧
    (s.mode = .hblank ∨ s.mode = .vblank ∨ s.dmaActive = true →
      exec (.readOam a) s = .next { s with readByte := some (s.oam.read (a.toNat - 0xFE00)) }) ∧
    (bit s.lcdc 7 = true → s.mode = .search ∨ s.mode = .transfer → exec (.writeOam a d) s = .next s) ∧
    (bit s.lcdc 7 = false ∨ s.mode = .hblank ∨ s.mode = .vblank →
      ∃ t, exec (.writeOam a d) s = .next t ∧ t = { s with oam := t.oam } ∧
        ∀ i, t.oam.read i = if i = a.toNat - 0xFE00 then d else s.oam.read i)

/-- R130, R131: LCDC reads back as stored; a write stores all 8 bits, and the write that clears bit 7 while it is set also
resets the line, the mode, the clock and the borrowed count and fills every framebuffer byte with 0xFF, and nothing else. -/
def Obligations.LcdcAccess : Prop :=
  ∀ (s : State) (d : Byte), s.running →
    decode ⟨0x0FF40#19, 0⟩ = .ok .readLcdc ∧ decode ⟨0x1FF40#19, d.toNat⟩ = .ok (.writeLcdc d) ∧
    exec .readLcdc s = .next { s with readByte := some s.lcdc } ∧
    (bit s.lcdc 7 = false ∨ bit d 7 = true → exec (.writeLcdc d) s = .next { s with lcdc := d }) ∧
    (bit s.lcdc 7 = true → bit d 7 = false →
      ∃ t, exec (.writeLcdc d) s = .next t ∧
        t = { s with lcdc := d, ly := 0#8, mode := .hblank, modeClock := 0, borrowed := 0, fb := t.fb } ∧
        (framebufferView t).length = 92160 ∧ ∀ b ∈ framebufferView t, b = 0xFF#8)

/-- R132, R133: STAT reads as U in bit 7, the stored enables, the coincidence of LY and LYC at the read in bit 2 and the mode
in bits 1:0; a write keeps bits 6:3 of the byte and changes nothing else (no interrupt). -/
def Obligations.StatAccess : Prop :=
  ∀ (s : State) (d : Byte), s.running → s.statSelReserved →
    decode ⟨0x0FF41#19, 0⟩ = .ok .readStat ∧ decode ⟨0x1FF41#19, d.toNat⟩ = .ok (.writeStat d) ∧
    (∃ v, exec .readStat s = .next { s with readByte := some v } ∧
      v.toNat = 128 * Config.given.unusedBitRead.toNat + s.statSel.toNat + (if s.ly = s.lyc then 4 else 0) +
        (match s.mode with | .hblank => 0 | .vblank => 1 | .search => 2 | .transfer => 3)) ∧
    exec (.writeStat d) s = .next { s with statSel := d &&& 0x78#8 }

/-- R134, R136, R138, R140, R144, R146, R148, R150, R152: the plain registers and LY read as stored, at the words of R72, and
a read changes nothing else; LY is never 153 in a state that meets the timing invariants. -/
def Obligations.PlainRegisterReads : Prop :=
  ∀ (s : State) (x : Nat), s.running →
    (decode ⟨0x0FF42#19, x⟩ = .ok .readScy ∧ exec .readScy s = .next { s with readByte := some s.scy }) ∧
    (decode ⟨0x0FF43#19, x⟩ = .ok .readScx ∧ exec .readScx s = .next { s with readByte := some s.scx }) ∧
    (decode ⟨0x0FF44#19, x⟩ = .ok .readLy ∧ exec .readLy s = .next { s with readByte := some s.ly } ∧
      (s.TimingInv → s.ly ≠ 153#8)) ∧
    (decode ⟨0x0FF45#19, x⟩ = .ok .readLyc ∧ exec .readLyc s = .next { s with readByte := some s.lyc }) ∧
    (decode ⟨0x0FF47#19, x⟩ = .ok .readBgp ∧ exec .readBgp s = .next { s with readByte := some s.bgp }) ∧
    (decode ⟨0x0FF48#19, x⟩ = .ok .readObp0 ∧ exec .readObp0 s = .next { s with readByte := some s.obp0 }) ∧
    (decode ⟨0x0FF49#19, x⟩ = .ok .readObp1 ∧ exec .readObp1 s = .next { s with readByte := some s.obp1 }) ∧
    (decode ⟨0x0FF4A#19, x⟩ = .ok .readWy ∧ exec .readWy s = .next { s with readByte := some s.wy }) ∧
    (decode ⟨0x0FF4B#19, x⟩ = .ok .readWx ∧ exec .readWx s = .next { s with readByte := some s.wx })

/-- R147, R149, R151, R153: the placeholder registers store the byte written, at the words of R72, and have no other
effect. -/
def Obligations.PlaceholderRegisterWrites : Prop :=
  ∀ (s : State) (d : Byte), s.running →
    (decode ⟨0x1FF48#19, d.toNat⟩ = .ok (.writeObp0 d) ∧ exec (.writeObp0 d) s = .next { s with obp0 := d }) ∧
    (decode ⟨0x1FF49#19, d.toNat⟩ = .ok (.writeObp1 d) ∧ exec (.writeObp1 d) s = .next { s with obp1 := d }) ∧
    (decode ⟨0x1FF4A#19, d.toNat⟩ = .ok (.writeWy d) ∧ exec (.writeWy d) s = .next { s with wy := d }) ∧
    (decode ⟨0x1FF4B#19, d.toNat⟩ = .ok (.writeWx d) ∧ exec (.writeWx d) s = .next { s with wx := d })

/-- R141, with 43_bus_arbiter.md sections 4 and 5 for the other three: writes of the scroll, compare and background palette
registers, at the words of R72, store the byte and change nothing else: no coincidence check runs, `stat_irq` and the line's
discard count stay, and bit 2 of the next STAT read says whether LY equals the new LYC. -/
def Obligations.ScrollCompareAndPaletteWrites : Prop :=
  ∀ (s : State) (d : Byte), s.running → s.statSelReserved →
    (decode ⟨0x1FF42#19, d.toNat⟩ = .ok (.writeScy d) ∧ exec (.writeScy d) s = .next { s with scy := d }) ∧
    (decode ⟨0x1FF43#19, d.toNat⟩ = .ok (.writeScx d) ∧ exec (.writeScx d) s = .next { s with scx := d }) ∧
    (decode ⟨0x1FF47#19, d.toNat⟩ = .ok (.writeBgp d) ∧ exec (.writeBgp d) s = .next { s with bgp := d }) ∧
    (decode ⟨0x1FF45#19, d.toNat⟩ = .ok (.writeLyc d) ∧ exec (.writeLyc d) s = .next { s with lyc := d }) ∧
    ∃ v, exec .readStat { s with lyc := d } = .next { s with lyc := d, readByte := some v } ∧
      (bit v 2 = true ↔ s.ly = d)

/-- R139, R142, R143: writes of LY and of the DMA byte are accepted and change no state; the DMA byte reads 0xFF. -/
def Obligations.IgnoredWrites : Prop :=
  ∀ (s : State) (d : Byte), s.running →
    (decode ⟨0x1FF44#19, d.toNat⟩ = .ok (.writeLy d) ∧ exec (.writeLy d) s = .next s) ∧
    (decode ⟨0x1FF46#19, d.toNat⟩ = .ok (.writeDma d) ∧ exec (.writeDma d) s = .next s) ∧
    (decode ⟨0x0FF46#19, 0⟩ = .ok .readDma ∧ exec .readDma s = .next { s with readByte := some 0xFF#8 })

/-- R154, R155: VBK reads as U in bits 7:1 and the bank in bit 0; a write stores bit 0 of the byte, which selects the bank in
the enhanced mode and has no effect on addressing in the monochrome mode. -/
def Obligations.VbkAccess : Prop :=
  ∀ (s : State) (d : Byte), s.running →
    decode ⟨0x0FF4F#19, 0⟩ = .ok .readVbk ∧ decode ⟨0x1FF4F#19, d.toNat⟩ = .ok (.writeVbk d) ∧
    (∃ v, exec .readVbk s = .next { s with readByte := some v } ∧
      v.toNat = 254 * Config.given.unusedBitRead.toNat + s.vbk.toNat) ∧
    ∃ t, exec (.writeVbk d) s = .next t ∧ t = { s with vbk := t.vbk } ∧ t.vbk.toNat = d.toNat % 2 ∧
      ∀ c : Config, (c.colorMode = .enhanced → bank c t = t.vbk) ∧ (c.colorMode = .monochrome → bank c t = 0#1)

/-- R156, R157, R160, R161: the palette index registers read as auto-increment, U and index; a write stores bits 7 and 5:0
of the byte and ignores bit 6; nothing else changes. -/
def Obligations.PaletteIndexAccess : Prop :=
  ∀ (s : State) (d : Byte), s.running →
    (decode ⟨0x0FF68#19, 0⟩ = .ok .readBcps ∧ decode ⟨0x0FF6A#19, 0⟩ = .ok .readOcps ∧
      decode ⟨0x1FF68#19, d.toNat⟩ = .ok (.writeBcps d) ∧ decode ⟨0x1FF6A#19, d.toNat⟩ = .ok (.writeOcps d)) ∧
    (∃ v, exec .readBcps s = .next { s with readByte := some v } ∧
      v.toNat = 128 * s.bcpsAi.toNat + 64 * Config.given.unusedBitRead.toNat + s.bcpsIdx.toNat) ∧
    (∃ v, exec .readOcps s = .next { s with readByte := some v } ∧
      v.toNat = 128 * s.ocpsAi.toNat + 64 * Config.given.unusedBitRead.toNat + s.ocpsIdx.toNat) ∧
    exec (.writeBcps d) s =
      .next { s with bcpsIdx := BitVec.ofNat 6 (d.toNat % 64), bcpsAi := BitVec.ofNat 1 (d.toNat / 128) } ∧
    exec (.writeOcps d) s =
      .next { s with ocpsIdx := BitVec.ofNat 6 (d.toNat % 64), ocpsAi := BitVec.ofNat 1 (d.toNat / 128) }

/-- R158, R159, R162, R163: a palette data read returns the byte at the index, in every mode; a palette data write stores the
byte at the index outside Transfer and is rejected in it; each advances the index mod 64 when auto-increment is set, a
rejected write too; no other byte and no other part of the state changes. -/
def Obligations.PaletteDataAccess : Prop :=
  ∀ (s : State) (d : Byte), s.running → s.MemoriesCanonical →
    (decode ⟨0x0FF69#19, 0⟩ = .ok .readBcpd ∧ decode ⟨0x0FF6B#19, 0⟩ = .ok .readOcpd ∧
      decode ⟨0x1FF69#19, d.toNat⟩ = .ok (.writeBcpd d) ∧ decode ⟨0x1FF6B#19, d.toNat⟩ = .ok (.writeOcpd d)) ∧
    exec .readBcpd s =
      .next { s with
              readByte := some (s.bgpal.read s.bcpsIdx.toNat)
              bcpsIdx := if s.bcpsAi = 1#1 then BitVec.ofNat 6 ((s.bcpsIdx.toNat + 1) % 64) else s.bcpsIdx } ∧
    exec .readOcpd s =
      .next { s with
              readByte := some (s.objpal.read s.ocpsIdx.toNat)
              ocpsIdx := if s.ocpsAi = 1#1 then BitVec.ofNat 6 ((s.ocpsIdx.toNat + 1) % 64) else s.ocpsIdx } ∧
    (∃ t, exec (.writeBcpd d) s = .next t ∧ t = { s with bgpal := t.bgpal, bcpsIdx := t.bcpsIdx } ∧
      t.bcpsIdx = (if s.bcpsAi = 1#1 then BitVec.ofNat 6 ((s.bcpsIdx.toNat + 1) % 64) else s.bcpsIdx) ∧
      (s.mode = .transfer → t.bgpal = s.bgpal) ∧
      (s.mode ≠ .transfer → ∀ i, t.bgpal.read i = if i = s.bcpsIdx.toNat then d else s.bgpal.read i)) ∧
    ∃ t, exec (.writeOcpd d) s = .next t ∧ t = { s with objpal := t.objpal, ocpsIdx := t.ocpsIdx } ∧
      t.ocpsIdx = (if s.ocpsAi = 1#1 then BitVec.ofNat 6 ((s.ocpsIdx.toNat + 1) % 64) else s.ocpsIdx) ∧
      (s.mode = .transfer → t.objpal = s.objpal) ∧
      (s.mode ≠ .transfer → ∀ i, t.objpal.read i = if i = s.ocpsIdx.toNat then d else s.objpal.read i)

/-- R164, R165 (and R174 for the faulted state; log entry 3): an access to an unmapped address raises the bus fault with its
kind and address, returns no value and changes nothing else; `d` is not examined. -/
def Obligations.UnmappedAccessFaults : Prop :=
  ∀ (s : State) (a : Addr) (d : Byte), s.running → isUnmapped a = true →
    decode ⟨(0b000#3 ++ a : ReqWord), 0⟩ = .ok (.readUnmapped a) ∧
    exec (.readUnmapped a) s = .next { s with fault := some (.busFault .read a) } ∧
    decode ⟨(0b001#3 ++ a : ReqWord), d.toNat⟩ = .ok (.writeUnmapped a d) ∧
    exec (.writeUnmapped a d) s = .next { s with fault := some (.busFault .write a) }

/-- R166, R167, R168: the ACK operations clear one latch each, SET_DMA sets the DMA input, in every mode and with the display
on or off; nothing else changes. -/
def Obligations.HostOperations : Prop :=
  ∀ (s : State) (b : Bool), s.running →
    decode ⟨0x30000#19, 0⟩ = .ok .ackVblank ∧ decode ⟨0x40000#19, 0⟩ = .ok .ackStat ∧
    decode ⟨0x50000#19, b.toNat⟩ = .ok (.setDma b) ∧
    exec .ackVblank s = .next { s with vblankIrq := false } ∧ exec .ackStat s = .next { s with statIrq := false } ∧
    exec (.setDma b) s = .next { s with dmaActive := b }

/-! ## What cannot be told apart -/

/-- 41_pixel_pipeline.md section 4 (R115), with 10_state.md R26 and 44_host_interface.md R168: no TICK depends on the storage
that the pipeline does not use: changing it before a TICK changes nothing but itself after it. -/
def Obligations.TickIgnoresUnusedStorage : Prop :=
  ∀ (n : Nat) (s t u : State), exec (.tick n) s = .next t →
    exec (.tick n) (s.withStorageOf u) = .next (t.withStorageOf u)

/-- 41_pixel_pipeline.md section 4 (R116, marked as derived) and 44_host_interface.md R172: TICK is the same in both color
modes and for both values of the unused bits; of the configuration it uses the shade table only. -/
def Obligations.TickIgnoresColorMode : Prop :=
  ∀ (c c' : Config) (n : Nat) (s : State), c.monoShade = c'.monoShade → tick c n s = tick c' n s

/-- 44_host_interface.md section 2 (R171) with 10_state.md R44: outside Transfer the pipeline's hidden state cannot be
observed by any sequence of operations, because the next Transfer entry starts the line afresh. -/
def Obligations.HiddenPipelineIsUnobservable : Prop :=
  ∀ s u : State, s.mode ≠ .transfer → Equivalent s (s.withPipelineOf u)
end

