-- ==== Sys2Proof/Laws/Decode.lean ====
section
/-!
SUPPORT. The laws of the encoding: the fields of a word, what an address selects, and when a word lies in a masked row.
-/

namespace Sys2Proof

/-! ### Fields (R67) -/

@[simp] theorem opField_append (op : BitVec 3) (a : Addr) : opField (op ++ a) = op := by
  unfold opField
  apply BitVec.eq_of_getLsbD_eq
  intro i hi
  simp only [BitVec.getLsbD_extractLsb', hi, decide_true, Bool.true_and]
  rw [BitVec.getLsbD_append, if_neg (by omega)]
  congr 1
  omega

@[simp] theorem addrField_append (op : BitVec 3) (a : Addr) : addrField (op ++ a) = a := by
  unfold addrField
  apply BitVec.eq_of_getLsbD_eq
  intro i hi
  simp only [BitVec.getLsbD_extractLsb', hi, decide_true, Bool.true_and, Nat.zero_add]
  rw [BitVec.getLsbD_append, if_pos hi]

/-- A word is its two fields. -/
theorem opField_append_addrField (w : ReqWord) : (opField w ++ addrField w : ReqWord) = w := by
  apply BitVec.eq_of_getLsbD_eq
  intro i hi
  rw [BitVec.getLsbD_append]
  unfold opField addrField
  split
  · next h => simp [h]
  · next h =>
    simp only [BitVec.getLsbD_extractLsb']
    rw [show 16 + (i - 16) = i by omega]
    simp only [show i - 16 < 3 by omega, decide_true, Bool.true_and]

theorem toNat_word (op : BitVec 3) (a : Addr) : (op ++ a : ReqWord).toNat = op.toNat * 65536 + a.toNat := by
  rw [BitVec.toNat_append, ← Nat.shiftLeft_add_eq_or_of_lt a.isLt, Nat.shiftLeft_eq]

/-! ### What an address selects (R71) -/

@[simp] theorem targetOf_register (r : Reg) : targetOf r.address = .reg r := by cases r <;> decide

/-- Each row of the register map pairs a register with its own address. -/
theorem registerMap_row : ∀ row ∈ registerMap, row.1 = row.2.address := by decide

/-- What the register map finds at an address is the register of that address. -/
theorem registerMap_lookup (a : Addr) : registerMap.lookup a = none ∨ ∃ r, registerMap.lookup a = some r ∧ a = r.address := by
  cases h : registerMap.lookup a with
  | none => exact .inl rfl
  | some r =>
    obtain ⟨before, after, split, -⟩ := List.lookup_eq_some_iff.1 h
    exact .inr ⟨r, rfl, registerMap_row (a, r) (by simp [split])⟩

/-- A register's address lies in no window (R55). -/
theorem register_not_window (r : Reg) : inVramWindow r.address = false ∧ inOamWindow r.address = false := by
  cases r <;> decide

theorem register_address (r : Reg) : isRegisterAddress r.address = true := by cases r <;> decide

theorem inVramWindow_iff (a : Addr) : inVramWindow a = true ↔ 0x8000 ≤ a.toNat ∧ a.toNat ≤ 0x9FFF := by
  simp [inVramWindow, BitVec.le_def]

theorem inOamWindow_iff (a : Addr) : inOamWindow a = true ↔ 0xFE00 ≤ a.toNat ∧ a.toNat ≤ 0xFE9F := by
  simp [inOamWindow, BitVec.le_def]

/-- A register address is that of some register (R24, R55). -/
theorem isRegisterAddress_iff (a : Addr) : isRegisterAddress a = true ↔ ∃ r : Reg, a = r.address := by
  refine ⟨fun h => ?_, fun ⟨r, h⟩ => h ▸ register_address r⟩
  have hn : (0xFF40 ≤ a.toNat ∧ a.toNat ≤ 0xFF4B) ∨ a.toNat = 0xFF4F ∨ (0xFF68 ≤ a.toNat ∧ a.toNat ≤ 0xFF6B) := by
    simp only [isRegisterAddress, Bool.or_eq_true, Bool.and_eq_true, decide_eq_true_eq, beq_iff_eq, BitVec.le_def] at h
    rcases h with (h | h) | h
    · exact .inl h
    · exact .inr (.inl (by rw [h]; rfl))
    · exact .inr (.inr h)
  have key : ∀ r : Reg, a.toNat = r.address.toNat → ∃ r : Reg, a = r.address := fun r h => ⟨r, BitVec.eq_of_toNat_eq h⟩
  have hcases : a.toNat = 0xFF40 ∨ a.toNat = 0xFF41 ∨ a.toNat = 0xFF42 ∨ a.toNat = 0xFF43 ∨ a.toNat = 0xFF44 ∨
      a.toNat = 0xFF45 ∨ a.toNat = 0xFF46 ∨ a.toNat = 0xFF47 ∨ a.toNat = 0xFF48 ∨ a.toNat = 0xFF49 ∨ a.toNat = 0xFF4A ∨
      a.toNat = 0xFF4B ∨ a.toNat = 0xFF4F ∨ a.toNat = 0xFF68 ∨ a.toNat = 0xFF69 ∨ a.toNat = 0xFF6A ∨ a.toNat = 0xFF6B := by
    omega
  rcases hcases with h | h | h | h | h | h | h | h | h | h | h | h | h | h | h | h | h
  · exact key .lcdc h
  · exact key .stat h
  · exact key .scy h
  · exact key .scx h
  · exact key .ly h
  · exact key .lyc h
  · exact key .dma h
  · exact key .bgp h
  · exact key .obp0 h
  · exact key .obp1 h
  · exact key .wy h
  · exact key .wx h
  · exact key .vbk h
  · exact key .bcps h
  · exact key .bcpd h
  · exact key .ocps h
  · exact key .ocpd h

/-- Everything an address can select (R55, R71). -/
theorem targetOf_cases (a : Addr) :
    (∃ r : Reg, a = r.address ∧ targetOf a = .reg r) ∨ (inVramWindow a = true ∧ targetOf a = .vram) ∨
      (inOamWindow a = true ∧ targetOf a = .oam) ∨ (isUnmapped a = true ∧ targetOf a = .unmapped) := by
  rcases registerMap_lookup a with h | ⟨r, h, ha⟩
  · have hr : isRegisterAddress a = false := by
      rw [← Bool.not_eq_true, isRegisterAddress_iff]
      rintro ⟨r, rfl⟩
      have := targetOf_register r
      simp only [targetOf, h] at this
      split at this
      · cases this
      · split at this <;> cases this
    by_cases hv : inVramWindow a = true
    · exact .inr (.inl ⟨hv, by simp [targetOf, h, hv]⟩)
    · by_cases ho : inOamWindow a = true
      · exact .inr (.inr (.inl ⟨ho, by simp [targetOf, h, hv, ho]⟩))
      · refine .inr (.inr (.inr ⟨?_, by simp [targetOf, h, hv, ho]⟩))
        simp [isUnmapped, hr, Bool.not_eq_true _ ▸ hv, Bool.not_eq_true _ ▸ ho]
  · exact .inl ⟨r, ha, by simp [targetOf, h]⟩

/-! ### Masked rows (R72) -/

/-- A mask of high bits keeps the word above them. -/
theorem and_high_mask (w : ReqWord) (k : Nat) : w &&& (BitVec.allOnes 19 <<< k) = (w >>> k) <<< k := by
  apply BitVec.eq_of_getLsbD_eq
  intro i hi
  simp only [BitVec.getLsbD_and, BitVec.getLsbD_shiftLeft, BitVec.getLsbD_allOnes, BitVec.getLsbD_ushiftRight, hi,
    decide_true, Bool.true_and]
  by_cases h : i < k
  · simp [h]
  · simp [h, show k + (i - k) = i by omega, show i - k < 19 by omega]

/-- A row whose mask keeps the bits from `k` up selects the words that agree with its pattern there. -/
theorem selects_high {m : Mnemonic} {p mask : ReqWord} (k : Nat) (hm : mask = BitVec.allOnes 19 <<< k)
    (hp : (p >>> k) <<< k = p) (w : ReqWord) :
    (OpcodeRow.mk m p mask).selects w = true ↔ w.toNat / 2 ^ k = p.toNat / 2 ^ k := by
  simp only [OpcodeRow.selects, beq_iff_eq, hm, and_high_mask]
  constructor
  · intro h
    have h2 := congrArg (fun v : ReqWord => v.toNat / 2 ^ k) h
    rw [← h2]
    simp only [BitVec.toNat_shiftLeft, BitVec.toNat_ushiftRight, Nat.shiftLeft_eq, Nat.shiftRight_eq_div_pow]
    have hlt : w.toNat / 2 ^ k * 2 ^ k < 2 ^ 19 := lt_of_le_of_lt (Nat.div_mul_le_self _ _) w.isLt
    rw [Nat.mod_eq_of_lt hlt, Nat.mul_div_cancel _ (Nat.two_pow_pos k)]
  · intro h
    rw [← hp]
    apply BitVec.eq_of_toNat_eq
    simp only [BitVec.toNat_shiftLeft, BitVec.toNat_ushiftRight, Nat.shiftRight_eq_div_pow, h]

end Sys2Proof
end

