-- ==== Sys2Proof/Laws/Ops.lean ====
section
/-!
SUPPORT. What each shared operation can do: completing an operation, going on after a step, taking a request, and the
lockout conditions.
-/

namespace Sys2Proof.Machine

@[simp] theorem perform_running {s : State} (h : s.fault = none) (op : State → State) : perform s op = .next (op s) := by
  simp [perform, h]

@[simp] theorem perform_stopped {s : State} {f : Fault} (h : s.fault = some f) (op : State → State) :
    perform s op = .fault f := by
  simp [perform, h]

/-- `perform` answers a next state only from a running machine, and then the operation's own. -/
theorem perform_next {s t : State} {op : State → State} (h : perform s op = .next t) : s.fault = none ∧ t = op s := by
  cases hf : s.fault with
  | none => rw [perform_running hf] at h; exact ⟨rfl, (Host.Outcome.next.inj h).symm⟩
  | some f => rw [perform_stopped hf] at h; cases h

@[simp] theorem andThen_running {s : State} (h : s.fault = none) (next : State → State) : s.andThen next = next s := by
  simp [State.andThen, h]

@[simp] theorem andThen_stopped {s : State} (h : s.fault ≠ none) (next : State → State) : s.andThen next = s := by
  unfold State.andThen
  split
  · contradiction
  · rfl

@[simp] theorem raise_fault (s : State) (f : Fault) : (s.raise f).fault = some f := rfl

@[simp] theorem takeRequest_none {s : State} (h : s.requests = []) : takeRequest s = none := by simp [takeRequest, h]

@[simp] theorem takeRequest_some {s : State} {r : Request} {rest : List Request} (h : s.requests = r :: rest) :
    takeRequest s = some (r, { s with requests := rest }) := by simp [takeRequest, h]

/-- A step is idle, refuses, or runs one decoded operation. -/
theorem step_cases {s t : State} (h : step s = .next t) :
    s.fault = none ∧ ((s.requests = [] ∧ t = s) ∨
      ∃ r rest i, s.requests = r :: rest ∧ decode r = .ok i ∧ exec i { s with requests := rest } = .next t) := by
  unfold step at h
  split at h
  · cases h
  · next hf =>
    refine ⟨hf, ?_⟩
    cases hq : s.requests with
    | nil =>
      rw [takeRequest_none hq] at h
      exact .inl ⟨rfl, (Host.Outcome.next.inj h).symm⟩
    | cons r rest =>
      rw [takeRequest_some hq] at h
      simp only at h
      split at h
      · cases h
      · next i hi => exact .inr ⟨r, rest, i, rfl, hi, h⟩

theorem statEvent_cases (s : State) (i : Nat) : s.statEvent i = s ∨ s.statEvent i = { s with statIrq := true } := by
  unfold State.statEvent
  split
  · exact .inr rfl
  · exact .inl rfl

theorem coincidenceCheck_cases (s : State) :
    coincidenceCheck s = s ∨ coincidenceCheck s = { s with statIrq := true } := by
  unfold coincidenceCheck
  split
  · exact statEvent_cases s 6
  · exact .inl rfl

end Sys2Proof.Machine
end

