-- ==== Sys2Proof/Laws/Exec.lean ====
section
/-!
SUPPORT. Every operation as a function on running states: `exec` completes it, and answers the recorded fault on a stopped
machine. A proof over all operations goes through `exec_next` and one case for each arm of `effect`.
-/

namespace Sys2Proof.Machine

/-- What an operation does to a running state (its meaning without the faulted case). -/
def effect : Instr → State → State
  | .readVram a, s => s.returnByte (vramReadValue Config.given a s)
  | .writeVram a d, s => vramWrite Config.given a d s
  | .readOam a, s => s.returnByte (oamReadValue a s)
  | .writeOam a d, s => oamWrite a d s
  | .readLcdc, s => s.returnByte s.lcdc
  | .writeLcdc d, s => writeLcdc d s
  | .readStat, s => s.returnByte (statByte Config.given s)
  | .writeStat d, s => { s with statSel := d &&& 0x78#8 }
  | .readScy, s => s.returnByte s.scy
  | .writeScy d, s => { s with scy := d }
  | .readScx, s => s.returnByte s.scx
  | .writeScx d, s => { s with scx := d }
  | .readLy, s => s.returnByte s.ly
  | .writeLy _, s => s
  | .readLyc, s => s.returnByte s.lyc
  | .writeLyc d, s => { s with lyc := d }
  | .readDma, s => s.returnByte 0xFF#8
  | .writeDma _, s => s
  | .readBgp, s => s.returnByte s.bgp
  | .writeBgp d, s => { s with bgp := d }
  | .readObp0, s => s.returnByte s.obp0
  | .writeObp0 d, s => { s with obp0 := d }
  | .readObp1, s => s.returnByte s.obp1
  | .writeObp1 d, s => { s with obp1 := d }
  | .readWy, s => s.returnByte s.wy
  | .writeWy d, s => { s with wy := d }
  | .readWx, s => s.returnByte s.wx
  | .writeWx d, s => { s with wx := d }
  | .readVbk, s => s.returnByte (vbkByte Config.given s)
  | .writeVbk d, s => { s with vbk := d.extractLsb' 0 1 }
  | .readBcps, s => s.returnByte (indexByte Config.given s.bcpsAi s.bcpsIdx)
  | .writeBcps d, s => { s with bcpsIdx := d.extractLsb' 0 6, bcpsAi := d.extractLsb' 7 1 }
  | .readBcpd, s => { s.returnByte (s.bgpal.read s.bcpsIdx.toNat) with bcpsIdx := nextIndex s.bcpsAi s.bcpsIdx }
  | .writeBcpd d, s => { s with bgpal := paletteWrite s s.bgpal s.bcpsIdx d, bcpsIdx := nextIndex s.bcpsAi s.bcpsIdx }
  | .readOcps, s => s.returnByte (indexByte Config.given s.ocpsAi s.ocpsIdx)
  | .writeOcps d, s => { s with ocpsIdx := d.extractLsb' 0 6, ocpsAi := d.extractLsb' 7 1 }
  | .readOcpd, s => { s.returnByte (s.objpal.read s.ocpsIdx.toNat) with ocpsIdx := nextIndex s.ocpsAi s.ocpsIdx }
  | .writeOcpd d, s => { s with objpal := paletteWrite s s.objpal s.ocpsIdx d, ocpsIdx := nextIndex s.ocpsAi s.ocpsIdx }
  | .readUnmapped a, s => s.raise (.busFault .read a)
  | .writeUnmapped a _, s => s.raise (.busFault .write a)
  | .tick n, s => tick Config.given n s
  | .ackVblank, s => { s with vblankIrq := false }
  | .ackStat, s => { s with statIrq := false }
  | .setDma b, s => { s with dmaActive := b }

theorem exec_eq_perform (i : Instr) (s : State) : exec i s = perform s (effect i) := by cases i <;> rfl

/-- Every operation completes on a running machine. -/
theorem exec_running {s : State} (h : s.fault = none) (i : Instr) : exec i s = .next (effect i s) := by
  rw [exec_eq_perform, perform_running h]

theorem exec_stopped {s : State} {f : Fault} (h : s.fault = some f) (i : Instr) : exec i s = .fault f := by
  rw [exec_eq_perform, perform_stopped h]

/-- A next state is the operation's effect on a running state. -/
theorem exec_next {i : Instr} {s t : State} (h : exec i s = .next t) : s.fault = none ∧ t = effect i s :=
  perform_next (exec_eq_perform i s ▸ h)

end Sys2Proof.Machine
end

