-- ==== Sys2Proof/Laws/Memory.lean ====
section
/-!
SUPPORT. The laws of byte memories: what a read gives after a write or a fill, and that every operation keeps the canonical
form and the bounds.
-/

namespace Sys2Proof.Machine

@[simp] theorem Memory.read_nil (a : Nat) : Memory.read [] a = Memory.unlisted := rfl

theorem Memory.read_cons (c : Host.Cell) (m : Memory) (a : Nat) :
    Memory.read (c :: m) a = if c.1 = a then c.2 else Memory.read m a := rfl

theorem Memory.wf_nil : Memory.wf [] := ⟨List.Pairwise.nil, by simp⟩

theorem Memory.wf_cons {c : Host.Cell} {m : Memory} :
    Memory.wf (c :: m) ↔ (∀ d ∈ m, c.1 < d.1) ∧ c.2 ≠ Memory.unlisted ∧ Memory.wf m := by
  simp only [Memory.wf, List.pairwise_cons, List.mem_cons, forall_eq_or_imp]
  tauto

/-- An address that is not listed reads as `Memory.unlisted`. -/
theorem Memory.read_unlisted {m : Memory} {a : Nat} (h : ∀ d ∈ m, d.1 ≠ a) : Memory.read m a = Memory.unlisted := by
  induction m with
  | nil => rfl
  | cons c m ih =>
    rw [Memory.read_cons, if_neg (h c (by simp)), ih fun d hd => h d (by simp [hd])]

theorem Memory.read_below {m : Memory} {a : Nat} (h : ∀ d ∈ m, a < d.1) : Memory.read m a = Memory.unlisted :=
  Memory.read_unlisted fun d hd => Nat.ne_of_gt (h d hd)

theorem Memory.read_within {n : Nat} {m : Memory} {a : Nat} (h : Memory.within n m) (ha : n ≤ a) :
    Memory.read m a = Memory.unlisted :=
  Memory.read_unlisted fun d hd => Nat.ne_of_lt (Nat.lt_of_lt_of_le (h d hd) ha)

theorem Memory.mem_cell {a : Nat} {v : Byte} {rest : Memory} {d : Host.Cell} (h : d ∈ Memory.cell a v rest) :
    d = (a, v) ∨ d ∈ rest := by
  unfold Memory.cell at h
  split at h
  · exact .inr h
  · simpa using h

theorem Memory.cell_wf {a : Nat} {v : Byte} {rest : Memory} (hr : Memory.wf rest) (hb : ∀ d ∈ rest, a < d.1) :
    Memory.wf (Memory.cell a v rest) := by
  unfold Memory.cell
  split
  · exact hr
  · next hv => exact Memory.wf_cons.2 ⟨hb, hv, hr⟩

theorem Memory.read_cell {a b : Nat} {v : Byte} {rest : Memory} (hb : ∀ d ∈ rest, a < d.1) :
    Memory.read (Memory.cell a v rest) b = if b = a then v else Memory.read rest b := by
  unfold Memory.cell
  split
  · next hv =>
    split
    · next h => rw [h, Memory.read_below hb, hv]
    · rfl
  · rw [Memory.read_cons]
    simp only [eq_comm]

theorem Memory.mem_write {m : Memory} {a : Nat} {v : Byte} {d : Host.Cell} (h : d ∈ Memory.write m a v) :
    d = (a, v) ∨ d ∈ m := by
  induction m with
  | nil => exact Memory.mem_cell h
  | cons c m ih =>
    rw [Memory.write] at h
    split at h
    · rcases List.mem_cons.1 h with rfl | h
      · simp
      · rcases ih h with h | h <;> simp [h]
    · split at h
      · rcases Memory.mem_cell h with h | h <;> simp [h]
      · rcases Memory.mem_cell h with h | h
        · simp [h]
        · exact .inr h

theorem Memory.write_wf {m : Memory} (a : Nat) (v : Byte) (h : Memory.wf m) : Memory.wf (Memory.write m a v) := by
  induction m with
  | nil => exact Memory.cell_wf Memory.wf_nil (by simp)
  | cons c m ih =>
    obtain ⟨hc, hv, hm⟩ := Memory.wf_cons.1 h
    rw [Memory.write]
    split
    · next hlt =>
      refine Memory.wf_cons.2 ⟨fun d hd => ?_, hv, ih hm⟩
      rcases Memory.mem_write hd with rfl | hd
      · exact hlt
      · exact hc d hd
    · split
      · next heq => exact Memory.cell_wf hm (heq ▸ hc)
      · next hge hne =>
        have hac : a < c.1 := by omega
        refine Memory.cell_wf h fun d hd => ?_
        rcases List.mem_cons.1 hd with rfl | hd
        · exact hac
        · exact hac.trans (hc d hd)

theorem Memory.write_within {n : Nat} {m : Memory} {a : Nat} (v : Byte) (h : Memory.within n m) (ha : a < n) :
    Memory.within n (Memory.write m a v) := by
  intro d hd
  rcases Memory.mem_write hd with rfl | hd
  · exact ha
  · exact h d hd

/-- A read after a write: the byte written at its address, every other byte as before. -/
theorem Memory.read_write {m : Memory} (h : Memory.wf m) (a b : Nat) (v : Byte) :
    Memory.read (Memory.write m a v) b = if b = a then v else Memory.read m b := by
  induction m with
  | nil => exact Memory.read_cell (by simp)
  | cons c m ih =>
    obtain ⟨hc, hv, hm⟩ := Memory.wf_cons.1 h
    rw [Memory.write]
    split
    · next hlt =>
      rw [Memory.read_cons, Memory.read_cons, ih hm]
      split
      · next heq => rw [if_neg (by omega)]
      · rfl
    · split
      · next heq =>
        rw [Memory.read_cell (heq ▸ hc), Memory.read_cons]
        split
        · rfl
        · rw [if_neg (by omega)]
      · next hge hne =>
        refine Memory.read_cell fun d hd => ?_
        rcases List.mem_cons.1 hd with rfl | hd
        · omega
        · exact lt_trans (by omega) (hc d hd)

theorem Memory.read_write_same {m : Memory} (h : Memory.wf m) (a : Nat) (v : Byte) :
    Memory.read (Memory.write m a v) a = v := by simp [Memory.read_write h]

theorem Memory.read_write_other {m : Memory} (h : Memory.wf m) {a b : Nat} (hab : b ≠ a) (v : Byte) :
    Memory.read (Memory.write m a v) b = Memory.read m b := by simp [Memory.read_write h, hab]

theorem Memory.filled_wf (n : Nat) (v : Byte) : Memory.wf (Memory.filled n v) := by
  unfold Memory.filled
  split
  · exact Memory.wf_nil
  · next hv =>
    refine ⟨?_, ?_⟩
    · rw [List.pairwise_map]
      exact List.pairwise_lt_range
    · simp only [List.mem_map, List.mem_range, forall_exists_index, and_imp, forall_apply_eq_imp_iff₂]
      exact fun _ _ => hv

theorem Memory.filled_within (n : Nat) (v : Byte) : Memory.within n (Memory.filled n v) := by
  unfold Memory.filled
  split
  · simp [Memory.within]
  · simp [Memory.within]

theorem Memory.read_map (l : List Nat) (v : Byte) (a : Nat) :
    Memory.read (l.map fun i => (i, v)) a = if a ∈ l then v else Memory.unlisted := by
  induction l with
  | nil => rfl
  | cons x l ih =>
    rw [List.map_cons, Memory.read_cons, ih]
    by_cases h : x = a
    · simp [h]
    · simp [h, Ne.symm h]

theorem Memory.read_filled (n : Nat) (v : Byte) (a : Nat) :
    Memory.read (Memory.filled n v) a = if a < n then v else Memory.unlisted := by
  unfold Memory.filled
  split
  · next hv => simp [hv]
  · rw [Memory.read_map]; simp

/-! ### The framebuffer (R54) -/

theorem fbWrite_wf {m : Memory} (x y : Nat) (p : Rgba) (h : Memory.wf m) : Memory.wf (fbWrite m x y p) :=
  Memory.write_wf _ _ (Memory.write_wf _ _ (Memory.write_wf _ _ (Memory.write_wf _ _ h)))

theorem fbWrite_within {m : Memory} {x y : Nat} (p : Rgba) (h : Memory.within fbSize m) (hx : x < 160) (hy : y < 144) :
    Memory.within fbSize (fbWrite m x y p) := by
  have hi : fbIndex x y + 3 < fbSize := by unfold fbIndex fbSize; omega
  exact Memory.write_within _ (Memory.write_within _ (Memory.write_within _ (Memory.write_within _ h (by omega)) (by omega))
    (by omega)) hi

/-- A pixel write changes no byte outside the pixel's four. -/
theorem read_fbWrite_other {m : Memory} (h : Memory.wf m) (x y : Nat) (p : Rgba) {a : Nat}
    (ha : a < fbIndex x y ∨ fbIndex x y + 3 < a) : Memory.read (fbWrite m x y p) a = Memory.read m a := by
  have h1 := Memory.write_wf (fbIndex x y) p.r h
  have h2 := Memory.write_wf (fbIndex x y + 1) p.g h1
  have h3 := Memory.write_wf (fbIndex x y + 2) p.b h2
  rw [fbWrite, Memory.read_write_other h3 (by omega), Memory.read_write_other h2 (by omega),
    Memory.read_write_other h1 (by omega), Memory.read_write_other h (by omega)]

/-- A pixel write leaves the pixel with the color written. -/
theorem fbRead_fbWrite_same {m : Memory} (h : Memory.wf m) (x y : Nat) (p : Rgba) : fbRead (fbWrite m x y p) x y = p := by
  have h1 := Memory.write_wf (fbIndex x y) p.r h
  have h2 := Memory.write_wf (fbIndex x y + 1) p.g h1
  have h3 := Memory.write_wf (fbIndex x y + 2) p.b h2
  simp [fbRead, fbWrite, Memory.read_write h3, Memory.read_write h2, Memory.read_write h1, Memory.read_write h]

/-- A pixel write leaves every other pixel of the screen as it was. -/
theorem fbRead_fbWrite_other {m : Memory} (h : Memory.wf m) {x y x' y' : Nat} (p : Rgba) (hx : x < 160) (hx' : x' < 160)
    (hne : (x', y') ≠ (x, y)) : fbRead (fbWrite m x y p) x' y' = fbRead m x' y' := by
  have hd : fbIndex x' y' + 3 < fbIndex x y ∨ fbIndex x y + 3 < fbIndex x' y' := by
    unfold fbIndex
    by_cases hy : y' = y
    · have : x' ≠ x := fun hxx => hne (by rw [hxx, hy])
      subst hy; omega
    · omega
  unfold fbRead
  rw [read_fbWrite_other h _ _ _ (by omega), read_fbWrite_other h _ _ _ (by omega), read_fbWrite_other h _ _ _ (by omega),
    read_fbWrite_other h _ _ _ (by omega)]

end Sys2Proof.Machine
end

