-- ==== Sys2Proof/Laws/PerInstr.lean ====
section
/-!
SUPPORT. Per-instruction family `RowMatch`: the encoded word of every well-formed operation lies in a row of the opcode map
(30_encoding.md R72) that carries its mnemonic.
-/

namespace Sys2Proof.Laws

/-- Some row of the opcode map with the operation's mnemonic selects its encoded word (R72). -/
def RowMatch.Statement (i : Instr) : Prop :=
  i.wellFormed = true → ∃ row ∈ opcodeMap, row.mnemonic = i.mnemonic ∧ row.selects (encode i).word = true

/-- An operation whose word is fixed by its mnemonic matches its row whatever its operand is. -/
theorem rowMatch_fixed {i : Instr} (op : BitVec 3) (a : Addr) (row : OpcodeRow) (ho : i.mnemonic.op = op)
    (ha : i.mnemonic.address i.ownAddress = a) (hr : row ∈ opcodeMap) (hm : row.mnemonic = i.mnemonic)
    (hs : row.selects (op ++ a : ReqWord) = true) : RowMatch.Statement i :=
  fun _ => ⟨row, hr, hm, by simpa only [encode, ho, ha] using hs⟩

/-- The word of a bus operation that carries its own address, in a row whose mask keeps the bits from `k` up. -/
theorem selects_bus {m : Mnemonic} {p mask : ReqWord} (k : Nat) (op : BitVec 3) (a : Addr)
    (hm : mask = BitVec.allOnes 19 <<< k) (hp : (p >>> k) <<< k = p)
    (h : (op.toNat * 65536 + a.toNat) / 2 ^ k = p.toNat / 2 ^ k) :
    (OpcodeRow.mk m p mask).selects (op ++ a : ReqWord) = true := by
  rw [selects_high k hm hp, toNat_word]
  exact h

theorem RowMatch.readVram (a : Addr) : RowMatch.Statement (.readVram a) := by
  intro h
  have h := (inVramWindow_iff a).1 h
  refine ⟨⟨.read .vram, 0x08000#19, 0x7E000#19⟩, by decide, rfl, selects_bus 13 0b000#3 a (by decide) (by decide) ?_⟩
  simp only [BitVec.toNat_ofNat]
  omega

theorem RowMatch.writeVram (a : Addr) (d : Byte) : RowMatch.Statement (.writeVram a d) := by
  intro h
  have h := (inVramWindow_iff a).1 h
  refine ⟨⟨.write .vram, 0x18000#19, 0x7E000#19⟩, by decide, rfl, selects_bus 13 0b001#3 a (by decide) (by decide) ?_⟩
  simp only [BitVec.toNat_ofNat]
  omega

theorem RowMatch.readOam (a : Addr) : RowMatch.Statement (.readOam a) := by
  intro h
  have h := (inOamWindow_iff a).1 h
  by_cases hlow : a.toNat < 0xFE80
  · refine ⟨⟨.read .oam, 0x0FE00#19, 0x7FF80#19⟩, by decide, rfl, selects_bus 7 0b000#3 a (by decide) (by decide) ?_⟩
    simp only [BitVec.toNat_ofNat]
    omega
  · refine ⟨⟨.read .oam, 0x0FE80#19, 0x7FFE0#19⟩, by decide, rfl, selects_bus 5 0b000#3 a (by decide) (by decide) ?_⟩
    simp only [BitVec.toNat_ofNat]
    omega

theorem RowMatch.writeOam (a : Addr) (d : Byte) : RowMatch.Statement (.writeOam a d) := by
  intro h
  have h := (inOamWindow_iff a).1 h
  by_cases hlow : a.toNat < 0xFE80
  · refine ⟨⟨.write .oam, 0x1FE00#19, 0x7FF80#19⟩, by decide, rfl, selects_bus 7 0b001#3 a (by decide) (by decide) ?_⟩
    simp only [BitVec.toNat_ofNat]
    omega
  · refine ⟨⟨.write .oam, 0x1FE80#19, 0x7FFE0#19⟩, by decide, rfl, selects_bus 5 0b001#3 a (by decide) (by decide) ?_⟩
    simp only [BitVec.toNat_ofNat]
    omega

theorem RowMatch.readUnmapped (a : Addr) : RowMatch.Statement (.readUnmapped a) := by
  intro _
  refine ⟨⟨.read .unmapped, 0x00000#19, 0x70000#19⟩, by decide, rfl, selects_bus 16 0b000#3 a (by decide) (by decide) ?_⟩
  simp only [BitVec.toNat_ofNat]
  omega

theorem RowMatch.writeUnmapped (a : Addr) (d : Byte) : RowMatch.Statement (.writeUnmapped a d) := by
  intro _
  refine ⟨⟨.write .unmapped, 0x10000#19, 0x70000#19⟩, by decide, rfl, selects_bus 16 0b001#3 a (by decide) (by decide) ?_⟩
  simp only [BitVec.toNat_ofNat]
  omega

theorem RowMatch.readLcdc : RowMatch.Statement .readLcdc :=
  rowMatch_fixed 0#3 0xFF40#16 ⟨.read (.reg .lcdc), 0x0FF40#19, 0x7FFFF#19⟩ rfl rfl (by decide) rfl (by decide)

theorem RowMatch.writeLcdc (d : Byte) : RowMatch.Statement (.writeLcdc d) :=
  rowMatch_fixed 1#3 0xFF40#16 ⟨.write (.reg .lcdc), 0x1FF40#19, 0x7FFFF#19⟩ rfl rfl (by decide) rfl (by decide)

theorem RowMatch.readStat : RowMatch.Statement .readStat :=
  rowMatch_fixed 0#3 0xFF41#16 ⟨.read (.reg .stat), 0x0FF41#19, 0x7FFFF#19⟩ rfl rfl (by decide) rfl (by decide)

theorem RowMatch.writeStat (d : Byte) : RowMatch.Statement (.writeStat d) :=
  rowMatch_fixed 1#3 0xFF41#16 ⟨.write (.reg .stat), 0x1FF41#19, 0x7FFFF#19⟩ rfl rfl (by decide) rfl (by decide)

theorem RowMatch.readScy : RowMatch.Statement .readScy :=
  rowMatch_fixed 0#3 0xFF42#16 ⟨.read (.reg .scy), 0x0FF42#19, 0x7FFFF#19⟩ rfl rfl (by decide) rfl (by decide)

theorem RowMatch.writeScy (d : Byte) : RowMatch.Statement (.writeScy d) :=
  rowMatch_fixed 1#3 0xFF42#16 ⟨.write (.reg .scy), 0x1FF42#19, 0x7FFFF#19⟩ rfl rfl (by decide) rfl (by decide)

theorem RowMatch.readScx : RowMatch.Statement .readScx :=
  rowMatch_fixed 0#3 0xFF43#16 ⟨.read (.reg .scx), 0x0FF43#19, 0x7FFFF#19⟩ rfl rfl (by decide) rfl (by decide)

theorem RowMatch.writeScx (d : Byte) : RowMatch.Statement (.writeScx d) :=
  rowMatch_fixed 1#3 0xFF43#16 ⟨.write (.reg .scx), 0x1FF43#19, 0x7FFFF#19⟩ rfl rfl (by decide) rfl (by decide)

theorem RowMatch.readLy : RowMatch.Statement .readLy :=
  rowMatch_fixed 0#3 0xFF44#16 ⟨.read (.reg .ly), 0x0FF44#19, 0x7FFFF#19⟩ rfl rfl (by decide) rfl (by decide)

theorem RowMatch.writeLy (d : Byte) : RowMatch.Statement (.writeLy d) :=
  rowMatch_fixed 1#3 0xFF44#16 ⟨.write (.reg .ly), 0x1FF44#19, 0x7FFFF#19⟩ rfl rfl (by decide) rfl (by decide)

theorem RowMatch.readLyc : RowMatch.Statement .readLyc :=
  rowMatch_fixed 0#3 0xFF45#16 ⟨.read (.reg .lyc), 0x0FF45#19, 0x7FFFF#19⟩ rfl rfl (by decide) rfl (by decide)

theorem RowMatch.writeLyc (d : Byte) : RowMatch.Statement (.writeLyc d) :=
  rowMatch_fixed 1#3 0xFF45#16 ⟨.write (.reg .lyc), 0x1FF45#19, 0x7FFFF#19⟩ rfl rfl (by decide) rfl (by decide)

theorem RowMatch.readDma : RowMatch.Statement .readDma :=
  rowMatch_fixed 0#3 0xFF46#16 ⟨.read (.reg .dma), 0x0FF46#19, 0x7FFFF#19⟩ rfl rfl (by decide) rfl (by decide)

theorem RowMatch.writeDma (d : Byte) : RowMatch.Statement (.writeDma d) :=
  rowMatch_fixed 1#3 0xFF46#16 ⟨.write (.reg .dma), 0x1FF46#19, 0x7FFFF#19⟩ rfl rfl (by decide) rfl (by decide)

theorem RowMatch.readBgp : RowMatch.Statement .readBgp :=
  rowMatch_fixed 0#3 0xFF47#16 ⟨.read (.reg .bgp), 0x0FF47#19, 0x7FFFF#19⟩ rfl rfl (by decide) rfl (by decide)

theorem RowMatch.writeBgp (d : Byte) : RowMatch.Statement (.writeBgp d) :=
  rowMatch_fixed 1#3 0xFF47#16 ⟨.write (.reg .bgp), 0x1FF47#19, 0x7FFFF#19⟩ rfl rfl (by decide) rfl (by decide)

theorem RowMatch.readObp0 : RowMatch.Statement .readObp0 :=
  rowMatch_fixed 0#3 0xFF48#16 ⟨.read (.reg .obp0), 0x0FF48#19, 0x7FFFF#19⟩ rfl rfl (by decide) rfl (by decide)

theorem RowMatch.writeObp0 (d : Byte) : RowMatch.Statement (.writeObp0 d) :=
  rowMatch_fixed 1#3 0xFF48#16 ⟨.write (.reg .obp0), 0x1FF48#19, 0x7FFFF#19⟩ rfl rfl (by decide) rfl (by decide)

theorem RowMatch.readObp1 : RowMatch.Statement .readObp1 :=
  rowMatch_fixed 0#3 0xFF49#16 ⟨.read (.reg .obp1), 0x0FF49#19, 0x7FFFF#19⟩ rfl rfl (by decide) rfl (by decide)

theorem RowMatch.writeObp1 (d : Byte) : RowMatch.Statement (.writeObp1 d) :=
  rowMatch_fixed 1#3 0xFF49#16 ⟨.write (.reg .obp1), 0x1FF49#19, 0x7FFFF#19⟩ rfl rfl (by decide) rfl (by decide)

theorem RowMatch.readWy : RowMatch.Statement .readWy :=
  rowMatch_fixed 0#3 0xFF4A#16 ⟨.read (.reg .wy), 0x0FF4A#19, 0x7FFFF#19⟩ rfl rfl (by decide) rfl (by decide)

theorem RowMatch.writeWy (d : Byte) : RowMatch.Statement (.writeWy d) :=
  rowMatch_fixed 1#3 0xFF4A#16 ⟨.write (.reg .wy), 0x1FF4A#19, 0x7FFFF#19⟩ rfl rfl (by decide) rfl (by decide)

theorem RowMatch.readWx : RowMatch.Statement .readWx :=
  rowMatch_fixed 0#3 0xFF4B#16 ⟨.read (.reg .wx), 0x0FF4B#19, 0x7FFFF#19⟩ rfl rfl (by decide) rfl (by decide)

theorem RowMatch.writeWx (d : Byte) : RowMatch.Statement (.writeWx d) :=
  rowMatch_fixed 1#3 0xFF4B#16 ⟨.write (.reg .wx), 0x1FF4B#19, 0x7FFFF#19⟩ rfl rfl (by decide) rfl (by decide)

theorem RowMatch.readVbk : RowMatch.Statement .readVbk :=
  rowMatch_fixed 0#3 0xFF4F#16 ⟨.read (.reg .vbk), 0x0FF4F#19, 0x7FFFF#19⟩ rfl rfl (by decide) rfl (by decide)

theorem RowMatch.writeVbk (d : Byte) : RowMatch.Statement (.writeVbk d) :=
  rowMatch_fixed 1#3 0xFF4F#16 ⟨.write (.reg .vbk), 0x1FF4F#19, 0x7FFFF#19⟩ rfl rfl (by decide) rfl (by decide)

theorem RowMatch.readBcps : RowMatch.Statement .readBcps :=
  rowMatch_fixed 0#3 0xFF68#16 ⟨.read (.reg .bcps), 0x0FF68#19, 0x7FFFF#19⟩ rfl rfl (by decide) rfl (by decide)

theorem RowMatch.writeBcps (d : Byte) : RowMatch.Statement (.writeBcps d) :=
  rowMatch_fixed 1#3 0xFF68#16 ⟨.write (.reg .bcps), 0x1FF68#19, 0x7FFFF#19⟩ rfl rfl (by decide) rfl (by decide)

theorem RowMatch.readBcpd : RowMatch.Statement .readBcpd :=
  rowMatch_fixed 0#3 0xFF69#16 ⟨.read (.reg .bcpd), 0x0FF69#19, 0x7FFFF#19⟩ rfl rfl (by decide) rfl (by decide)

theorem RowMatch.writeBcpd (d : Byte) : RowMatch.Statement (.writeBcpd d) :=
  rowMatch_fixed 1#3 0xFF69#16 ⟨.write (.reg .bcpd), 0x1FF69#19, 0x7FFFF#19⟩ rfl rfl (by decide) rfl (by decide)

theorem RowMatch.readOcps : RowMatch.Statement .readOcps :=
  rowMatch_fixed 0#3 0xFF6A#16 ⟨.read (.reg .ocps), 0x0FF6A#19, 0x7FFFF#19⟩ rfl rfl (by decide) rfl (by decide)

theorem RowMatch.writeOcps (d : Byte) : RowMatch.Statement (.writeOcps d) :=
  rowMatch_fixed 1#3 0xFF6A#16 ⟨.write (.reg .ocps), 0x1FF6A#19, 0x7FFFF#19⟩ rfl rfl (by decide) rfl (by decide)

theorem RowMatch.readOcpd : RowMatch.Statement .readOcpd :=
  rowMatch_fixed 0#3 0xFF6B#16 ⟨.read (.reg .ocpd), 0x0FF6B#19, 0x7FFFF#19⟩ rfl rfl (by decide) rfl (by decide)

theorem RowMatch.writeOcpd (d : Byte) : RowMatch.Statement (.writeOcpd d) :=
  rowMatch_fixed 1#3 0xFF6B#16 ⟨.write (.reg .ocpd), 0x1FF6B#19, 0x7FFFF#19⟩ rfl rfl (by decide) rfl (by decide)

theorem RowMatch.tick (n : Nat) : RowMatch.Statement (.tick n) :=
  rowMatch_fixed 2#3 0x0000#16 ⟨.tick, 0x20000#19, 0x7FFFF#19⟩ rfl rfl (by decide) rfl (by decide)

theorem RowMatch.ackVblank : RowMatch.Statement .ackVblank :=
  rowMatch_fixed 3#3 0x0000#16 ⟨.ackVblank, 0x30000#19, 0x7FFFF#19⟩ rfl rfl (by decide) rfl (by decide)

theorem RowMatch.ackStat : RowMatch.Statement .ackStat :=
  rowMatch_fixed 4#3 0x0000#16 ⟨.ackStat, 0x40000#19, 0x7FFFF#19⟩ rfl rfl (by decide) rfl (by decide)

theorem RowMatch.setDma (b : Bool) : RowMatch.Statement (.setDma b) :=
  rowMatch_fixed 5#3 0x0000#16 ⟨.setDma, 0x50000#19, 0x7FFFF#19⟩ rfl rfl (by decide) rfl (by decide)

end Sys2Proof.Laws
end

