-- ==== Sys2Proof/Laws/State.lean ====
section
/-!
SUPPORT. The fields of State after each named update: one lemma per field per update, so that no proof unfolds an update.
The conditional interrupt event of R92 changes no field but `stat_irq`.
-/

namespace Sys2Proof.Machine

/-! ### raise -/

@[simp] theorem raise_mode_eq (s : State) (f : Fault) : (s.raise f).mode = s.mode := rfl
@[simp] theorem raise_modeClock_eq (s : State) (f : Fault) : (s.raise f).modeClock = s.modeClock := rfl
@[simp] theorem raise_ly_eq (s : State) (f : Fault) : (s.raise f).ly = s.ly := rfl
@[simp] theorem raise_cursor_eq (s : State) (f : Fault) : (s.raise f).cursor = s.cursor := rfl
@[simp] theorem raise_borrowed_eq (s : State) (f : Fault) : (s.raise f).borrowed = s.borrowed := rfl
@[simp] theorem raise_lcdc_eq (s : State) (f : Fault) : (s.raise f).lcdc = s.lcdc := rfl
@[simp] theorem raise_statSel_eq (s : State) (f : Fault) : (s.raise f).statSel = s.statSel := rfl
@[simp] theorem raise_scy_eq (s : State) (f : Fault) : (s.raise f).scy = s.scy := rfl
@[simp] theorem raise_scx_eq (s : State) (f : Fault) : (s.raise f).scx = s.scx := rfl
@[simp] theorem raise_lyc_eq (s : State) (f : Fault) : (s.raise f).lyc = s.lyc := rfl
@[simp] theorem raise_wy_eq (s : State) (f : Fault) : (s.raise f).wy = s.wy := rfl
@[simp] theorem raise_wx_eq (s : State) (f : Fault) : (s.raise f).wx = s.wx := rfl
@[simp] theorem raise_bgp_eq (s : State) (f : Fault) : (s.raise f).bgp = s.bgp := rfl
@[simp] theorem raise_obp0_eq (s : State) (f : Fault) : (s.raise f).obp0 = s.obp0 := rfl
@[simp] theorem raise_obp1_eq (s : State) (f : Fault) : (s.raise f).obp1 = s.obp1 := rfl
@[simp] theorem raise_vbk_eq (s : State) (f : Fault) : (s.raise f).vbk = s.vbk := rfl
@[simp] theorem raise_bcpsIdx_eq (s : State) (f : Fault) : (s.raise f).bcpsIdx = s.bcpsIdx := rfl
@[simp] theorem raise_bcpsAi_eq (s : State) (f : Fault) : (s.raise f).bcpsAi = s.bcpsAi := rfl
@[simp] theorem raise_ocpsIdx_eq (s : State) (f : Fault) : (s.raise f).ocpsIdx = s.ocpsIdx := rfl
@[simp] theorem raise_ocpsAi_eq (s : State) (f : Fault) : (s.raise f).ocpsAi = s.ocpsAi := rfl
@[simp] theorem raise_fstate_eq (s : State) (f : Fault) : (s.raise f).fstate = s.fstate := rfl
@[simp] theorem raise_fcol_eq (s : State) (f : Fault) : (s.raise f).fcol = s.fcol := rfl
@[simp] theorem raise_tileIdx_eq (s : State) (f : Fault) : (s.raise f).tileIdx = s.tileIdx := rfl
@[simp] theorem raise_lo_eq (s : State) (f : Fault) : (s.raise f).lo = s.lo := rfl
@[simp] theorem raise_hi_eq (s : State) (f : Fault) : (s.raise f).hi = s.hi := rfl
@[simp] theorem raise_fifo_eq (s : State) (f : Fault) : (s.raise f).fifo = s.fifo := rfl
@[simp] theorem raise_discard_eq (s : State) (f : Fault) : (s.raise f).discard = s.discard := rfl
@[simp] theorem raise_vram0_eq (s : State) (f : Fault) : (s.raise f).vram0 = s.vram0 := rfl
@[simp] theorem raise_vram1_eq (s : State) (f : Fault) : (s.raise f).vram1 = s.vram1 := rfl
@[simp] theorem raise_oam_eq (s : State) (f : Fault) : (s.raise f).oam = s.oam := rfl
@[simp] theorem raise_bgpal_eq (s : State) (f : Fault) : (s.raise f).bgpal = s.bgpal := rfl
@[simp] theorem raise_objpal_eq (s : State) (f : Fault) : (s.raise f).objpal = s.objpal := rfl
@[simp] theorem raise_fb_eq (s : State) (f : Fault) : (s.raise f).fb = s.fb := rfl
@[simp] theorem raise_vblankIrq_eq (s : State) (f : Fault) : (s.raise f).vblankIrq = s.vblankIrq := rfl
@[simp] theorem raise_statIrq_eq (s : State) (f : Fault) : (s.raise f).statIrq = s.statIrq := rfl
@[simp] theorem raise_dmaActive_eq (s : State) (f : Fault) : (s.raise f).dmaActive = s.dmaActive := rfl
@[simp] theorem raise_readByte_eq (s : State) (f : Fault) : (s.raise f).readByte = s.readByte := rfl
@[simp] theorem raise_requests_eq (s : State) (f : Fault) : (s.raise f).requests = s.requests := rfl

/-! ### returnByte -/

@[simp] theorem returnByte_mode_eq (s : State) (v : Byte) : (s.returnByte v).mode = s.mode := rfl
@[simp] theorem returnByte_modeClock_eq (s : State) (v : Byte) : (s.returnByte v).modeClock = s.modeClock := rfl
@[simp] theorem returnByte_ly_eq (s : State) (v : Byte) : (s.returnByte v).ly = s.ly := rfl
@[simp] theorem returnByte_cursor_eq (s : State) (v : Byte) : (s.returnByte v).cursor = s.cursor := rfl
@[simp] theorem returnByte_borrowed_eq (s : State) (v : Byte) : (s.returnByte v).borrowed = s.borrowed := rfl
@[simp] theorem returnByte_lcdc_eq (s : State) (v : Byte) : (s.returnByte v).lcdc = s.lcdc := rfl
@[simp] theorem returnByte_statSel_eq (s : State) (v : Byte) : (s.returnByte v).statSel = s.statSel := rfl
@[simp] theorem returnByte_scy_eq (s : State) (v : Byte) : (s.returnByte v).scy = s.scy := rfl
@[simp] theorem returnByte_scx_eq (s : State) (v : Byte) : (s.returnByte v).scx = s.scx := rfl
@[simp] theorem returnByte_lyc_eq (s : State) (v : Byte) : (s.returnByte v).lyc = s.lyc := rfl
@[simp] theorem returnByte_wy_eq (s : State) (v : Byte) : (s.returnByte v).wy = s.wy := rfl
@[simp] theorem returnByte_wx_eq (s : State) (v : Byte) : (s.returnByte v).wx = s.wx := rfl
@[simp] theorem returnByte_bgp_eq (s : State) (v : Byte) : (s.returnByte v).bgp = s.bgp := rfl
@[simp] theorem returnByte_obp0_eq (s : State) (v : Byte) : (s.returnByte v).obp0 = s.obp0 := rfl
@[simp] theorem returnByte_obp1_eq (s : State) (v : Byte) : (s.returnByte v).obp1 = s.obp1 := rfl
@[simp] theorem returnByte_vbk_eq (s : State) (v : Byte) : (s.returnByte v).vbk = s.vbk := rfl
@[simp] theorem returnByte_bcpsIdx_eq (s : State) (v : Byte) : (s.returnByte v).bcpsIdx = s.bcpsIdx := rfl
@[simp] theorem returnByte_bcpsAi_eq (s : State) (v : Byte) : (s.returnByte v).bcpsAi = s.bcpsAi := rfl
@[simp] theorem returnByte_ocpsIdx_eq (s : State) (v : Byte) : (s.returnByte v).ocpsIdx = s.ocpsIdx := rfl
@[simp] theorem returnByte_ocpsAi_eq (s : State) (v : Byte) : (s.returnByte v).ocpsAi = s.ocpsAi := rfl
@[simp] theorem returnByte_fstate_eq (s : State) (v : Byte) : (s.returnByte v).fstate = s.fstate := rfl
@[simp] theorem returnByte_fcol_eq (s : State) (v : Byte) : (s.returnByte v).fcol = s.fcol := rfl
@[simp] theorem returnByte_tileIdx_eq (s : State) (v : Byte) : (s.returnByte v).tileIdx = s.tileIdx := rfl
@[simp] theorem returnByte_lo_eq (s : State) (v : Byte) : (s.returnByte v).lo = s.lo := rfl
@[simp] theorem returnByte_hi_eq (s : State) (v : Byte) : (s.returnByte v).hi = s.hi := rfl
@[simp] theorem returnByte_fifo_eq (s : State) (v : Byte) : (s.returnByte v).fifo = s.fifo := rfl
@[simp] theorem returnByte_discard_eq (s : State) (v : Byte) : (s.returnByte v).discard = s.discard := rfl
@[simp] theorem returnByte_vram0_eq (s : State) (v : Byte) : (s.returnByte v).vram0 = s.vram0 := rfl
@[simp] theorem returnByte_vram1_eq (s : State) (v : Byte) : (s.returnByte v).vram1 = s.vram1 := rfl
@[simp] theorem returnByte_oam_eq (s : State) (v : Byte) : (s.returnByte v).oam = s.oam := rfl
@[simp] theorem returnByte_bgpal_eq (s : State) (v : Byte) : (s.returnByte v).bgpal = s.bgpal := rfl
@[simp] theorem returnByte_objpal_eq (s : State) (v : Byte) : (s.returnByte v).objpal = s.objpal := rfl
@[simp] theorem returnByte_fb_eq (s : State) (v : Byte) : (s.returnByte v).fb = s.fb := rfl
@[simp] theorem returnByte_vblankIrq_eq (s : State) (v : Byte) : (s.returnByte v).vblankIrq = s.vblankIrq := rfl
@[simp] theorem returnByte_statIrq_eq (s : State) (v : Byte) : (s.returnByte v).statIrq = s.statIrq := rfl
@[simp] theorem returnByte_dmaActive_eq (s : State) (v : Byte) : (s.returnByte v).dmaActive = s.dmaActive := rfl
@[simp] theorem returnByte_fault_eq (s : State) (v : Byte) : (s.returnByte v).fault = s.fault := rfl
@[simp] theorem returnByte_readByte_eq (s : State) (v : Byte) : (s.returnByte v).readByte = some v := rfl
@[simp] theorem returnByte_requests_eq (s : State) (v : Byte) : (s.returnByte v).requests = s.requests := rfl

/-! ### submit -/

@[simp] theorem submit_mode_eq (s : State) (r : Request) : (s.submit r).mode = s.mode := rfl
@[simp] theorem submit_modeClock_eq (s : State) (r : Request) : (s.submit r).modeClock = s.modeClock := rfl
@[simp] theorem submit_ly_eq (s : State) (r : Request) : (s.submit r).ly = s.ly := rfl
@[simp] theorem submit_cursor_eq (s : State) (r : Request) : (s.submit r).cursor = s.cursor := rfl
@[simp] theorem submit_borrowed_eq (s : State) (r : Request) : (s.submit r).borrowed = s.borrowed := rfl
@[simp] theorem submit_lcdc_eq (s : State) (r : Request) : (s.submit r).lcdc = s.lcdc := rfl
@[simp] theorem submit_statSel_eq (s : State) (r : Request) : (s.submit r).statSel = s.statSel := rfl
@[simp] theorem submit_scy_eq (s : State) (r : Request) : (s.submit r).scy = s.scy := rfl
@[simp] theorem submit_scx_eq (s : State) (r : Request) : (s.submit r).scx = s.scx := rfl
@[simp] theorem submit_lyc_eq (s : State) (r : Request) : (s.submit r).lyc = s.lyc := rfl
@[simp] theorem submit_wy_eq (s : State) (r : Request) : (s.submit r).wy = s.wy := rfl
@[simp] theorem submit_wx_eq (s : State) (r : Request) : (s.submit r).wx = s.wx := rfl
@[simp] theorem submit_bgp_eq (s : State) (r : Request) : (s.submit r).bgp = s.bgp := rfl
@[simp] theorem submit_obp0_eq (s : State) (r : Request) : (s.submit r).obp0 = s.obp0 := rfl
@[simp] theorem submit_obp1_eq (s : State) (r : Request) : (s.submit r).obp1 = s.obp1 := rfl
@[simp] theorem submit_vbk_eq (s : State) (r : Request) : (s.submit r).vbk = s.vbk := rfl
@[simp] theorem submit_bcpsIdx_eq (s : State) (r : Request) : (s.submit r).bcpsIdx = s.bcpsIdx := rfl
@[simp] theorem submit_bcpsAi_eq (s : State) (r : Request) : (s.submit r).bcpsAi = s.bcpsAi := rfl
@[simp] theorem submit_ocpsIdx_eq (s : State) (r : Request) : (s.submit r).ocpsIdx = s.ocpsIdx := rfl
@[simp] theorem submit_ocpsAi_eq (s : State) (r : Request) : (s.submit r).ocpsAi = s.ocpsAi := rfl
@[simp] theorem submit_fstate_eq (s : State) (r : Request) : (s.submit r).fstate = s.fstate := rfl
@[simp] theorem submit_fcol_eq (s : State) (r : Request) : (s.submit r).fcol = s.fcol := rfl
@[simp] theorem submit_tileIdx_eq (s : State) (r : Request) : (s.submit r).tileIdx = s.tileIdx := rfl
@[simp] theorem submit_lo_eq (s : State) (r : Request) : (s.submit r).lo = s.lo := rfl
@[simp] theorem submit_hi_eq (s : State) (r : Request) : (s.submit r).hi = s.hi := rfl
@[simp] theorem submit_fifo_eq (s : State) (r : Request) : (s.submit r).fifo = s.fifo := rfl
@[simp] theorem submit_discard_eq (s : State) (r : Request) : (s.submit r).discard = s.discard := rfl
@[simp] theorem submit_vram0_eq (s : State) (r : Request) : (s.submit r).vram0 = s.vram0 := rfl
@[simp] theorem submit_vram1_eq (s : State) (r : Request) : (s.submit r).vram1 = s.vram1 := rfl
@[simp] theorem submit_oam_eq (s : State) (r : Request) : (s.submit r).oam = s.oam := rfl
@[simp] theorem submit_bgpal_eq (s : State) (r : Request) : (s.submit r).bgpal = s.bgpal := rfl
@[simp] theorem submit_objpal_eq (s : State) (r : Request) : (s.submit r).objpal = s.objpal := rfl
@[simp] theorem submit_fb_eq (s : State) (r : Request) : (s.submit r).fb = s.fb := rfl
@[simp] theorem submit_vblankIrq_eq (s : State) (r : Request) : (s.submit r).vblankIrq = s.vblankIrq := rfl
@[simp] theorem submit_statIrq_eq (s : State) (r : Request) : (s.submit r).statIrq = s.statIrq := rfl
@[simp] theorem submit_dmaActive_eq (s : State) (r : Request) : (s.submit r).dmaActive = s.dmaActive := rfl
@[simp] theorem submit_fault_eq (s : State) (r : Request) : (s.submit r).fault = s.fault := rfl
@[simp] theorem submit_readByte_eq (s : State) (r : Request) : (s.submit r).readByte = s.readByte := rfl
@[simp] theorem submit_requests_eq (s : State) (r : Request) : (s.submit r).requests = s.requests ++ [r] := rfl

/-! ### enterTransfer -/

@[simp] theorem enterTransfer_mode_eq (s : State) : (enterTransfer s).mode = .transfer := rfl
@[simp] theorem enterTransfer_modeClock_eq (s : State) : (enterTransfer s).modeClock = 0 := rfl
@[simp] theorem enterTransfer_ly_eq (s : State) : (enterTransfer s).ly = s.ly := rfl
@[simp] theorem enterTransfer_cursor_eq (s : State) : (enterTransfer s).cursor = 0 := rfl
@[simp] theorem enterTransfer_borrowed_eq (s : State) : (enterTransfer s).borrowed = 0 := rfl
@[simp] theorem enterTransfer_lcdc_eq (s : State) : (enterTransfer s).lcdc = s.lcdc := rfl
@[simp] theorem enterTransfer_statSel_eq (s : State) : (enterTransfer s).statSel = s.statSel := rfl
@[simp] theorem enterTransfer_scy_eq (s : State) : (enterTransfer s).scy = s.scy := rfl
@[simp] theorem enterTransfer_scx_eq (s : State) : (enterTransfer s).scx = s.scx := rfl
@[simp] theorem enterTransfer_lyc_eq (s : State) : (enterTransfer s).lyc = s.lyc := rfl
@[simp] theorem enterTransfer_wy_eq (s : State) : (enterTransfer s).wy = s.wy := rfl
@[simp] theorem enterTransfer_wx_eq (s : State) : (enterTransfer s).wx = s.wx := rfl
@[simp] theorem enterTransfer_bgp_eq (s : State) : (enterTransfer s).bgp = s.bgp := rfl
@[simp] theorem enterTransfer_obp0_eq (s : State) : (enterTransfer s).obp0 = s.obp0 := rfl
@[simp] theorem enterTransfer_obp1_eq (s : State) : (enterTransfer s).obp1 = s.obp1 := rfl
@[simp] theorem enterTransfer_vbk_eq (s : State) : (enterTransfer s).vbk = s.vbk := rfl
@[simp] theorem enterTransfer_bcpsIdx_eq (s : State) : (enterTransfer s).bcpsIdx = s.bcpsIdx := rfl
@[simp] theorem enterTransfer_bcpsAi_eq (s : State) : (enterTransfer s).bcpsAi = s.bcpsAi := rfl
@[simp] theorem enterTransfer_ocpsIdx_eq (s : State) : (enterTransfer s).ocpsIdx = s.ocpsIdx := rfl
@[simp] theorem enterTransfer_ocpsAi_eq (s : State) : (enterTransfer s).ocpsAi = s.ocpsAi := rfl
@[simp] theorem enterTransfer_fstate_eq (s : State) : (enterTransfer s).fstate = .idle .tile := rfl
@[simp] theorem enterTransfer_fcol_eq (s : State) : (enterTransfer s).fcol = 0#5 := rfl
@[simp] theorem enterTransfer_tileIdx_eq (s : State) : (enterTransfer s).tileIdx = s.tileIdx := rfl
@[simp] theorem enterTransfer_lo_eq (s : State) : (enterTransfer s).lo = s.lo := rfl
@[simp] theorem enterTransfer_hi_eq (s : State) : (enterTransfer s).hi = s.hi := rfl
@[simp] theorem enterTransfer_fifo_eq (s : State) : (enterTransfer s).fifo = [] := rfl
@[simp] theorem enterTransfer_discard_eq (s : State) : (enterTransfer s).discard = s.scx.toNat % 8 := rfl
@[simp] theorem enterTransfer_vram0_eq (s : State) : (enterTransfer s).vram0 = s.vram0 := rfl
@[simp] theorem enterTransfer_vram1_eq (s : State) : (enterTransfer s).vram1 = s.vram1 := rfl
@[simp] theorem enterTransfer_oam_eq (s : State) : (enterTransfer s).oam = s.oam := rfl
@[simp] theorem enterTransfer_bgpal_eq (s : State) : (enterTransfer s).bgpal = s.bgpal := rfl
@[simp] theorem enterTransfer_objpal_eq (s : State) : (enterTransfer s).objpal = s.objpal := rfl
@[simp] theorem enterTransfer_fb_eq (s : State) : (enterTransfer s).fb = s.fb := rfl
@[simp] theorem enterTransfer_vblankIrq_eq (s : State) : (enterTransfer s).vblankIrq = s.vblankIrq := rfl
@[simp] theorem enterTransfer_statIrq_eq (s : State) : (enterTransfer s).statIrq = s.statIrq := rfl
@[simp] theorem enterTransfer_dmaActive_eq (s : State) : (enterTransfer s).dmaActive = s.dmaActive := rfl
@[simp] theorem enterTransfer_fault_eq (s : State) : (enterTransfer s).fault = s.fault := rfl
@[simp] theorem enterTransfer_readByte_eq (s : State) : (enterTransfer s).readByte = s.readByte := rfl
@[simp] theorem enterTransfer_requests_eq (s : State) : (enterTransfer s).requests = s.requests := rfl

/-! ### discardPop -/

@[simp] theorem discardPop_mode_eq (s : State) : (discardPop s).mode = s.mode := rfl
@[simp] theorem discardPop_modeClock_eq (s : State) : (discardPop s).modeClock = s.modeClock := rfl
@[simp] theorem discardPop_ly_eq (s : State) : (discardPop s).ly = s.ly := rfl
@[simp] theorem discardPop_cursor_eq (s : State) : (discardPop s).cursor = s.cursor := rfl
@[simp] theorem discardPop_borrowed_eq (s : State) : (discardPop s).borrowed = s.borrowed + 1 := rfl
@[simp] theorem discardPop_lcdc_eq (s : State) : (discardPop s).lcdc = s.lcdc := rfl
@[simp] theorem discardPop_statSel_eq (s : State) : (discardPop s).statSel = s.statSel := rfl
@[simp] theorem discardPop_scy_eq (s : State) : (discardPop s).scy = s.scy := rfl
@[simp] theorem discardPop_scx_eq (s : State) : (discardPop s).scx = s.scx := rfl
@[simp] theorem discardPop_lyc_eq (s : State) : (discardPop s).lyc = s.lyc := rfl
@[simp] theorem discardPop_wy_eq (s : State) : (discardPop s).wy = s.wy := rfl
@[simp] theorem discardPop_wx_eq (s : State) : (discardPop s).wx = s.wx := rfl
@[simp] theorem discardPop_bgp_eq (s : State) : (discardPop s).bgp = s.bgp := rfl
@[simp] theorem discardPop_obp0_eq (s : State) : (discardPop s).obp0 = s.obp0 := rfl
@[simp] theorem discardPop_obp1_eq (s : State) : (discardPop s).obp1 = s.obp1 := rfl
@[simp] theorem discardPop_vbk_eq (s : State) : (discardPop s).vbk = s.vbk := rfl
@[simp] theorem discardPop_bcpsIdx_eq (s : State) : (discardPop s).bcpsIdx = s.bcpsIdx := rfl
@[simp] theorem discardPop_bcpsAi_eq (s : State) : (discardPop s).bcpsAi = s.bcpsAi := rfl
@[simp] theorem discardPop_ocpsIdx_eq (s : State) : (discardPop s).ocpsIdx = s.ocpsIdx := rfl
@[simp] theorem discardPop_ocpsAi_eq (s : State) : (discardPop s).ocpsAi = s.ocpsAi := rfl
@[simp] theorem discardPop_fstate_eq (s : State) : (discardPop s).fstate = s.fstate := rfl
@[simp] theorem discardPop_fcol_eq (s : State) : (discardPop s).fcol = s.fcol := rfl
@[simp] theorem discardPop_tileIdx_eq (s : State) : (discardPop s).tileIdx = s.tileIdx := rfl
@[simp] theorem discardPop_lo_eq (s : State) : (discardPop s).lo = s.lo := rfl
@[simp] theorem discardPop_hi_eq (s : State) : (discardPop s).hi = s.hi := rfl
@[simp] theorem discardPop_fifo_eq (s : State) : (discardPop s).fifo = s.fifo.tail := rfl
@[simp] theorem discardPop_discard_eq (s : State) : (discardPop s).discard = s.discard - 1 := rfl
@[simp] theorem discardPop_vram0_eq (s : State) : (discardPop s).vram0 = s.vram0 := rfl
@[simp] theorem discardPop_vram1_eq (s : State) : (discardPop s).vram1 = s.vram1 := rfl
@[simp] theorem discardPop_oam_eq (s : State) : (discardPop s).oam = s.oam := rfl
@[simp] theorem discardPop_bgpal_eq (s : State) : (discardPop s).bgpal = s.bgpal := rfl
@[simp] theorem discardPop_objpal_eq (s : State) : (discardPop s).objpal = s.objpal := rfl
@[simp] theorem discardPop_fb_eq (s : State) : (discardPop s).fb = s.fb := rfl
@[simp] theorem discardPop_vblankIrq_eq (s : State) : (discardPop s).vblankIrq = s.vblankIrq := rfl
@[simp] theorem discardPop_statIrq_eq (s : State) : (discardPop s).statIrq = s.statIrq := rfl
@[simp] theorem discardPop_dmaActive_eq (s : State) : (discardPop s).dmaActive = s.dmaActive := rfl
@[simp] theorem discardPop_fault_eq (s : State) : (discardPop s).fault = s.fault := rfl
@[simp] theorem discardPop_readByte_eq (s : State) : (discardPop s).readByte = s.readByte := rfl
@[simp] theorem discardPop_requests_eq (s : State) : (discardPop s).requests = s.requests := rfl

/-! ### emitPop -/

@[simp] theorem emitPop_mode_eq (c : Config) (s : State) : (emitPop c s).mode = s.mode := rfl
@[simp] theorem emitPop_modeClock_eq (c : Config) (s : State) : (emitPop c s).modeClock = s.modeClock := rfl
@[simp] theorem emitPop_ly_eq (c : Config) (s : State) : (emitPop c s).ly = s.ly := rfl
@[simp] theorem emitPop_cursor_eq (c : Config) (s : State) : (emitPop c s).cursor = s.cursor + 1 := rfl
@[simp] theorem emitPop_borrowed_eq (c : Config) (s : State) : (emitPop c s).borrowed = s.borrowed := rfl
@[simp] theorem emitPop_lcdc_eq (c : Config) (s : State) : (emitPop c s).lcdc = s.lcdc := rfl
@[simp] theorem emitPop_statSel_eq (c : Config) (s : State) : (emitPop c s).statSel = s.statSel := rfl
@[simp] theorem emitPop_scy_eq (c : Config) (s : State) : (emitPop c s).scy = s.scy := rfl
@[simp] theorem emitPop_scx_eq (c : Config) (s : State) : (emitPop c s).scx = s.scx := rfl
@[simp] theorem emitPop_lyc_eq (c : Config) (s : State) : (emitPop c s).lyc = s.lyc := rfl
@[simp] theorem emitPop_wy_eq (c : Config) (s : State) : (emitPop c s).wy = s.wy := rfl
@[simp] theorem emitPop_wx_eq (c : Config) (s : State) : (emitPop c s).wx = s.wx := rfl
@[simp] theorem emitPop_bgp_eq (c : Config) (s : State) : (emitPop c s).bgp = s.bgp := rfl
@[simp] theorem emitPop_obp0_eq (c : Config) (s : State) : (emitPop c s).obp0 = s.obp0 := rfl
@[simp] theorem emitPop_obp1_eq (c : Config) (s : State) : (emitPop c s).obp1 = s.obp1 := rfl
@[simp] theorem emitPop_vbk_eq (c : Config) (s : State) : (emitPop c s).vbk = s.vbk := rfl
@[simp] theorem emitPop_bcpsIdx_eq (c : Config) (s : State) : (emitPop c s).bcpsIdx = s.bcpsIdx := rfl
@[simp] theorem emitPop_bcpsAi_eq (c : Config) (s : State) : (emitPop c s).bcpsAi = s.bcpsAi := rfl
@[simp] theorem emitPop_ocpsIdx_eq (c : Config) (s : State) : (emitPop c s).ocpsIdx = s.ocpsIdx := rfl
@[simp] theorem emitPop_ocpsAi_eq (c : Config) (s : State) : (emitPop c s).ocpsAi = s.ocpsAi := rfl
@[simp] theorem emitPop_fstate_eq (c : Config) (s : State) : (emitPop c s).fstate = s.fstate := rfl
@[simp] theorem emitPop_fcol_eq (c : Config) (s : State) : (emitPop c s).fcol = s.fcol := rfl
@[simp] theorem emitPop_tileIdx_eq (c : Config) (s : State) : (emitPop c s).tileIdx = s.tileIdx := rfl
@[simp] theorem emitPop_lo_eq (c : Config) (s : State) : (emitPop c s).lo = s.lo := rfl
@[simp] theorem emitPop_hi_eq (c : Config) (s : State) : (emitPop c s).hi = s.hi := rfl
@[simp] theorem emitPop_fifo_eq (c : Config) (s : State) : (emitPop c s).fifo = s.fifo.tail := rfl
@[simp] theorem emitPop_discard_eq (c : Config) (s : State) : (emitPop c s).discard = s.discard := rfl
@[simp] theorem emitPop_vram0_eq (c : Config) (s : State) : (emitPop c s).vram0 = s.vram0 := rfl
@[simp] theorem emitPop_vram1_eq (c : Config) (s : State) : (emitPop c s).vram1 = s.vram1 := rfl
@[simp] theorem emitPop_oam_eq (c : Config) (s : State) : (emitPop c s).oam = s.oam := rfl
@[simp] theorem emitPop_bgpal_eq (c : Config) (s : State) : (emitPop c s).bgpal = s.bgpal := rfl
@[simp] theorem emitPop_objpal_eq (c : Config) (s : State) : (emitPop c s).objpal = s.objpal := rfl
@[simp] theorem emitPop_fb_eq (c : Config) (s : State) : (emitPop c s).fb = fbWrite s.fb s.cursor s.ly.toNat (monoResolve c s.bgp (s.fifo.headD 0#2)) := rfl
@[simp] theorem emitPop_vblankIrq_eq (c : Config) (s : State) : (emitPop c s).vblankIrq = s.vblankIrq := rfl
@[simp] theorem emitPop_statIrq_eq (c : Config) (s : State) : (emitPop c s).statIrq = s.statIrq := rfl
@[simp] theorem emitPop_dmaActive_eq (c : Config) (s : State) : (emitPop c s).dmaActive = s.dmaActive := rfl
@[simp] theorem emitPop_fault_eq (c : Config) (s : State) : (emitPop c s).fault = s.fault := rfl
@[simp] theorem emitPop_readByte_eq (c : Config) (s : State) : (emitPop c s).readByte = s.readByte := rfl
@[simp] theorem emitPop_requests_eq (c : Config) (s : State) : (emitPop c s).requests = s.requests := rfl

/-! ### advanceStep -/

@[simp] theorem advanceStep_mode_eq (s : State) : (advanceStep s).mode = s.mode := rfl
@[simp] theorem advanceStep_modeClock_eq (s : State) : (advanceStep s).modeClock = s.modeClock := rfl
@[simp] theorem advanceStep_ly_eq (s : State) : (advanceStep s).ly = s.ly := rfl
@[simp] theorem advanceStep_cursor_eq (s : State) : (advanceStep s).cursor = s.cursor := rfl
@[simp] theorem advanceStep_borrowed_eq (s : State) : (advanceStep s).borrowed = s.borrowed := rfl
@[simp] theorem advanceStep_lcdc_eq (s : State) : (advanceStep s).lcdc = s.lcdc := rfl
@[simp] theorem advanceStep_statSel_eq (s : State) : (advanceStep s).statSel = s.statSel := rfl
@[simp] theorem advanceStep_scy_eq (s : State) : (advanceStep s).scy = s.scy := rfl
@[simp] theorem advanceStep_scx_eq (s : State) : (advanceStep s).scx = s.scx := rfl
@[simp] theorem advanceStep_lyc_eq (s : State) : (advanceStep s).lyc = s.lyc := rfl
@[simp] theorem advanceStep_wy_eq (s : State) : (advanceStep s).wy = s.wy := rfl
@[simp] theorem advanceStep_wx_eq (s : State) : (advanceStep s).wx = s.wx := rfl
@[simp] theorem advanceStep_bgp_eq (s : State) : (advanceStep s).bgp = s.bgp := rfl
@[simp] theorem advanceStep_obp0_eq (s : State) : (advanceStep s).obp0 = s.obp0 := rfl
@[simp] theorem advanceStep_obp1_eq (s : State) : (advanceStep s).obp1 = s.obp1 := rfl
@[simp] theorem advanceStep_vbk_eq (s : State) : (advanceStep s).vbk = s.vbk := rfl
@[simp] theorem advanceStep_bcpsIdx_eq (s : State) : (advanceStep s).bcpsIdx = s.bcpsIdx := rfl
@[simp] theorem advanceStep_bcpsAi_eq (s : State) : (advanceStep s).bcpsAi = s.bcpsAi := rfl
@[simp] theorem advanceStep_ocpsIdx_eq (s : State) : (advanceStep s).ocpsIdx = s.ocpsIdx := rfl
@[simp] theorem advanceStep_ocpsAi_eq (s : State) : (advanceStep s).ocpsAi = s.ocpsAi := rfl
@[simp] theorem advanceStep_fstate_eq (s : State) : (advanceStep s).fstate = .push .commit := rfl
@[simp] theorem advanceStep_fcol_eq (s : State) : (advanceStep s).fcol = s.fcol + 1#5 := rfl
@[simp] theorem advanceStep_tileIdx_eq (s : State) : (advanceStep s).tileIdx = s.tileIdx := rfl
@[simp] theorem advanceStep_lo_eq (s : State) : (advanceStep s).lo = s.lo := rfl
@[simp] theorem advanceStep_hi_eq (s : State) : (advanceStep s).hi = s.hi := rfl
@[simp] theorem advanceStep_fifo_eq (s : State) : (advanceStep s).fifo = s.fifo := rfl
@[simp] theorem advanceStep_discard_eq (s : State) : (advanceStep s).discard = s.discard := rfl
@[simp] theorem advanceStep_vram0_eq (s : State) : (advanceStep s).vram0 = s.vram0 := rfl
@[simp] theorem advanceStep_vram1_eq (s : State) : (advanceStep s).vram1 = s.vram1 := rfl
@[simp] theorem advanceStep_oam_eq (s : State) : (advanceStep s).oam = s.oam := rfl
@[simp] theorem advanceStep_bgpal_eq (s : State) : (advanceStep s).bgpal = s.bgpal := rfl
@[simp] theorem advanceStep_objpal_eq (s : State) : (advanceStep s).objpal = s.objpal := rfl
@[simp] theorem advanceStep_fb_eq (s : State) : (advanceStep s).fb = s.fb := rfl
@[simp] theorem advanceStep_vblankIrq_eq (s : State) : (advanceStep s).vblankIrq = s.vblankIrq := rfl
@[simp] theorem advanceStep_statIrq_eq (s : State) : (advanceStep s).statIrq = s.statIrq := rfl
@[simp] theorem advanceStep_dmaActive_eq (s : State) : (advanceStep s).dmaActive = s.dmaActive := rfl
@[simp] theorem advanceStep_fault_eq (s : State) : (advanceStep s).fault = s.fault := rfl
@[simp] theorem advanceStep_readByte_eq (s : State) : (advanceStep s).readByte = s.readByte := rfl
@[simp] theorem advanceStep_requests_eq (s : State) : (advanceStep s).requests = s.requests := rfl

/-! ### displayOff -/

@[simp] theorem displayOff_mode_eq (s : State) : (displayOff s).mode = .hblank := rfl
@[simp] theorem displayOff_modeClock_eq (s : State) : (displayOff s).modeClock = 0 := rfl
@[simp] theorem displayOff_ly_eq (s : State) : (displayOff s).ly = 0x00#8 := rfl
@[simp] theorem displayOff_cursor_eq (s : State) : (displayOff s).cursor = s.cursor := rfl
@[simp] theorem displayOff_borrowed_eq (s : State) : (displayOff s).borrowed = 0 := rfl
@[simp] theorem displayOff_lcdc_eq (s : State) : (displayOff s).lcdc = s.lcdc := rfl
@[simp] theorem displayOff_statSel_eq (s : State) : (displayOff s).statSel = s.statSel := rfl
@[simp] theorem displayOff_scy_eq (s : State) : (displayOff s).scy = s.scy := rfl
@[simp] theorem displayOff_scx_eq (s : State) : (displayOff s).scx = s.scx := rfl
@[simp] theorem displayOff_lyc_eq (s : State) : (displayOff s).lyc = s.lyc := rfl
@[simp] theorem displayOff_wy_eq (s : State) : (displayOff s).wy = s.wy := rfl
@[simp] theorem displayOff_wx_eq (s : State) : (displayOff s).wx = s.wx := rfl
@[simp] theorem displayOff_bgp_eq (s : State) : (displayOff s).bgp = s.bgp := rfl
@[simp] theorem displayOff_obp0_eq (s : State) : (displayOff s).obp0 = s.obp0 := rfl
@[simp] theorem displayOff_obp1_eq (s : State) : (displayOff s).obp1 = s.obp1 := rfl
@[simp] theorem displayOff_vbk_eq (s : State) : (displayOff s).vbk = s.vbk := rfl
@[simp] theorem displayOff_bcpsIdx_eq (s : State) : (displayOff s).bcpsIdx = s.bcpsIdx := rfl
@[simp] theorem displayOff_bcpsAi_eq (s : State) : (displayOff s).bcpsAi = s.bcpsAi := rfl
@[simp] theorem displayOff_ocpsIdx_eq (s : State) : (displayOff s).ocpsIdx = s.ocpsIdx := rfl
@[simp] theorem displayOff_ocpsAi_eq (s : State) : (displayOff s).ocpsAi = s.ocpsAi := rfl
@[simp] theorem displayOff_fstate_eq (s : State) : (displayOff s).fstate = s.fstate := rfl
@[simp] theorem displayOff_fcol_eq (s : State) : (displayOff s).fcol = s.fcol := rfl
@[simp] theorem displayOff_tileIdx_eq (s : State) : (displayOff s).tileIdx = s.tileIdx := rfl
@[simp] theorem displayOff_lo_eq (s : State) : (displayOff s).lo = s.lo := rfl
@[simp] theorem displayOff_hi_eq (s : State) : (displayOff s).hi = s.hi := rfl
@[simp] theorem displayOff_fifo_eq (s : State) : (displayOff s).fifo = s.fifo := rfl
@[simp] theorem displayOff_discard_eq (s : State) : (displayOff s).discard = s.discard := rfl
@[simp] theorem displayOff_vram0_eq (s : State) : (displayOff s).vram0 = s.vram0 := rfl
@[simp] theorem displayOff_vram1_eq (s : State) : (displayOff s).vram1 = s.vram1 := rfl
@[simp] theorem displayOff_oam_eq (s : State) : (displayOff s).oam = s.oam := rfl
@[simp] theorem displayOff_bgpal_eq (s : State) : (displayOff s).bgpal = s.bgpal := rfl
@[simp] theorem displayOff_objpal_eq (s : State) : (displayOff s).objpal = s.objpal := rfl
@[simp] theorem displayOff_fb_eq (s : State) : (displayOff s).fb = Memory.filled fbSize 0xFF#8 := rfl
@[simp] theorem displayOff_vblankIrq_eq (s : State) : (displayOff s).vblankIrq = s.vblankIrq := rfl
@[simp] theorem displayOff_statIrq_eq (s : State) : (displayOff s).statIrq = s.statIrq := rfl
@[simp] theorem displayOff_dmaActive_eq (s : State) : (displayOff s).dmaActive = s.dmaActive := rfl
@[simp] theorem displayOff_fault_eq (s : State) : (displayOff s).fault = s.fault := rfl
@[simp] theorem displayOff_readByte_eq (s : State) : (displayOff s).readByte = s.readByte := rfl
@[simp] theorem displayOff_requests_eq (s : State) : (displayOff s).requests = s.requests := rfl

/-! ### The status-interrupt event and the coincidence check -/

@[simp] theorem statEvent_mode_eq (s : State) (i : Nat) : (s.statEvent i).mode = s.mode := by unfold State.statEvent; split <;> rfl
@[simp] theorem statEvent_modeClock_eq (s : State) (i : Nat) : (s.statEvent i).modeClock = s.modeClock := by unfold State.statEvent; split <;> rfl
@[simp] theorem statEvent_ly_eq (s : State) (i : Nat) : (s.statEvent i).ly = s.ly := by unfold State.statEvent; split <;> rfl
@[simp] theorem statEvent_cursor_eq (s : State) (i : Nat) : (s.statEvent i).cursor = s.cursor := by unfold State.statEvent; split <;> rfl
@[simp] theorem statEvent_borrowed_eq (s : State) (i : Nat) : (s.statEvent i).borrowed = s.borrowed := by unfold State.statEvent; split <;> rfl
@[simp] theorem statEvent_lcdc_eq (s : State) (i : Nat) : (s.statEvent i).lcdc = s.lcdc := by unfold State.statEvent; split <;> rfl
@[simp] theorem statEvent_statSel_eq (s : State) (i : Nat) : (s.statEvent i).statSel = s.statSel := by unfold State.statEvent; split <;> rfl
@[simp] theorem statEvent_scy_eq (s : State) (i : Nat) : (s.statEvent i).scy = s.scy := by unfold State.statEvent; split <;> rfl
@[simp] theorem statEvent_scx_eq (s : State) (i : Nat) : (s.statEvent i).scx = s.scx := by unfold State.statEvent; split <;> rfl
@[simp] theorem statEvent_lyc_eq (s : State) (i : Nat) : (s.statEvent i).lyc = s.lyc := by unfold State.statEvent; split <;> rfl
@[simp] theorem statEvent_wy_eq (s : State) (i : Nat) : (s.statEvent i).wy = s.wy := by unfold State.statEvent; split <;> rfl
@[simp] theorem statEvent_wx_eq (s : State) (i : Nat) : (s.statEvent i).wx = s.wx := by unfold State.statEvent; split <;> rfl
@[simp] theorem statEvent_bgp_eq (s : State) (i : Nat) : (s.statEvent i).bgp = s.bgp := by unfold State.statEvent; split <;> rfl
@[simp] theorem statEvent_obp0_eq (s : State) (i : Nat) : (s.statEvent i).obp0 = s.obp0 := by unfold State.statEvent; split <;> rfl
@[simp] theorem statEvent_obp1_eq (s : State) (i : Nat) : (s.statEvent i).obp1 = s.obp1 := by unfold State.statEvent; split <;> rfl
@[simp] theorem statEvent_vbk_eq (s : State) (i : Nat) : (s.statEvent i).vbk = s.vbk := by unfold State.statEvent; split <;> rfl
@[simp] theorem statEvent_bcpsIdx_eq (s : State) (i : Nat) : (s.statEvent i).bcpsIdx = s.bcpsIdx := by unfold State.statEvent; split <;> rfl
@[simp] theorem statEvent_bcpsAi_eq (s : State) (i : Nat) : (s.statEvent i).bcpsAi = s.bcpsAi := by unfold State.statEvent; split <;> rfl
@[simp] theorem statEvent_ocpsIdx_eq (s : State) (i : Nat) : (s.statEvent i).ocpsIdx = s.ocpsIdx := by unfold State.statEvent; split <;> rfl
@[simp] theorem statEvent_ocpsAi_eq (s : State) (i : Nat) : (s.statEvent i).ocpsAi = s.ocpsAi := by unfold State.statEvent; split <;> rfl
@[simp] theorem statEvent_fstate_eq (s : State) (i : Nat) : (s.statEvent i).fstate = s.fstate := by unfold State.statEvent; split <;> rfl
@[simp] theorem statEvent_fcol_eq (s : State) (i : Nat) : (s.statEvent i).fcol = s.fcol := by unfold State.statEvent; split <;> rfl
@[simp] theorem statEvent_tileIdx_eq (s : State) (i : Nat) : (s.statEvent i).tileIdx = s.tileIdx := by unfold State.statEvent; split <;> rfl
@[simp] theorem statEvent_lo_eq (s : State) (i : Nat) : (s.statEvent i).lo = s.lo := by unfold State.statEvent; split <;> rfl
@[simp] theorem statEvent_hi_eq (s : State) (i : Nat) : (s.statEvent i).hi = s.hi := by unfold State.statEvent; split <;> rfl
@[simp] theorem statEvent_fifo_eq (s : State) (i : Nat) : (s.statEvent i).fifo = s.fifo := by unfold State.statEvent; split <;> rfl
@[simp] theorem statEvent_discard_eq (s : State) (i : Nat) : (s.statEvent i).discard = s.discard := by unfold State.statEvent; split <;> rfl
@[simp] theorem statEvent_vram0_eq (s : State) (i : Nat) : (s.statEvent i).vram0 = s.vram0 := by unfold State.statEvent; split <;> rfl
@[simp] theorem statEvent_vram1_eq (s : State) (i : Nat) : (s.statEvent i).vram1 = s.vram1 := by unfold State.statEvent; split <;> rfl
@[simp] theorem statEvent_oam_eq (s : State) (i : Nat) : (s.statEvent i).oam = s.oam := by unfold State.statEvent; split <;> rfl
@[simp] theorem statEvent_bgpal_eq (s : State) (i : Nat) : (s.statEvent i).bgpal = s.bgpal := by unfold State.statEvent; split <;> rfl
@[simp] theorem statEvent_objpal_eq (s : State) (i : Nat) : (s.statEvent i).objpal = s.objpal := by unfold State.statEvent; split <;> rfl
@[simp] theorem statEvent_fb_eq (s : State) (i : Nat) : (s.statEvent i).fb = s.fb := by unfold State.statEvent; split <;> rfl
@[simp] theorem statEvent_vblankIrq_eq (s : State) (i : Nat) : (s.statEvent i).vblankIrq = s.vblankIrq := by unfold State.statEvent; split <;> rfl
@[simp] theorem statEvent_dmaActive_eq (s : State) (i : Nat) : (s.statEvent i).dmaActive = s.dmaActive := by unfold State.statEvent; split <;> rfl
@[simp] theorem statEvent_fault_eq (s : State) (i : Nat) : (s.statEvent i).fault = s.fault := by unfold State.statEvent; split <;> rfl
@[simp] theorem statEvent_readByte_eq (s : State) (i : Nat) : (s.statEvent i).readByte = s.readByte := by unfold State.statEvent; split <;> rfl
@[simp] theorem statEvent_requests_eq (s : State) (i : Nat) : (s.statEvent i).requests = s.requests := by unfold State.statEvent; split <;> rfl
@[simp] theorem statEvent_statIrq_eq (s : State) (i : Nat) : (s.statEvent i).statIrq = (s.statIrq || bit s.statSel i) := by
  unfold State.statEvent
  split
  · next h => simp [h]
  · next h => simp [Bool.not_eq_true _ ▸ h]

@[simp] theorem coincidenceCheck_mode_eq (s : State) : (coincidenceCheck s).mode = s.mode := by unfold coincidenceCheck; split <;> simp
@[simp] theorem coincidenceCheck_modeClock_eq (s : State) : (coincidenceCheck s).modeClock = s.modeClock := by unfold coincidenceCheck; split <;> simp
@[simp] theorem coincidenceCheck_ly_eq (s : State) : (coincidenceCheck s).ly = s.ly := by unfold coincidenceCheck; split <;> simp
@[simp] theorem coincidenceCheck_cursor_eq (s : State) : (coincidenceCheck s).cursor = s.cursor := by unfold coincidenceCheck; split <;> simp
@[simp] theorem coincidenceCheck_borrowed_eq (s : State) : (coincidenceCheck s).borrowed = s.borrowed := by unfold coincidenceCheck; split <;> simp
@[simp] theorem coincidenceCheck_lcdc_eq (s : State) : (coincidenceCheck s).lcdc = s.lcdc := by unfold coincidenceCheck; split <;> simp
@[simp] theorem coincidenceCheck_statSel_eq (s : State) : (coincidenceCheck s).statSel = s.statSel := by unfold coincidenceCheck; split <;> simp
@[simp] theorem coincidenceCheck_scy_eq (s : State) : (coincidenceCheck s).scy = s.scy := by unfold coincidenceCheck; split <;> simp
@[simp] theorem coincidenceCheck_scx_eq (s : State) : (coincidenceCheck s).scx = s.scx := by unfold coincidenceCheck; split <;> simp
@[simp] theorem coincidenceCheck_lyc_eq (s : State) : (coincidenceCheck s).lyc = s.lyc := by unfold coincidenceCheck; split <;> simp
@[simp] theorem coincidenceCheck_wy_eq (s : State) : (coincidenceCheck s).wy = s.wy := by unfold coincidenceCheck; split <;> simp
@[simp] theorem coincidenceCheck_wx_eq (s : State) : (coincidenceCheck s).wx = s.wx := by unfold coincidenceCheck; split <;> simp
@[simp] theorem coincidenceCheck_bgp_eq (s : State) : (coincidenceCheck s).bgp = s.bgp := by unfold coincidenceCheck; split <;> simp
@[simp] theorem coincidenceCheck_obp0_eq (s : State) : (coincidenceCheck s).obp0 = s.obp0 := by unfold coincidenceCheck; split <;> simp
@[simp] theorem coincidenceCheck_obp1_eq (s : State) : (coincidenceCheck s).obp1 = s.obp1 := by unfold coincidenceCheck; split <;> simp
@[simp] theorem coincidenceCheck_vbk_eq (s : State) : (coincidenceCheck s).vbk = s.vbk := by unfold coincidenceCheck; split <;> simp
@[simp] theorem coincidenceCheck_bcpsIdx_eq (s : State) : (coincidenceCheck s).bcpsIdx = s.bcpsIdx := by unfold coincidenceCheck; split <;> simp
@[simp] theorem coincidenceCheck_bcpsAi_eq (s : State) : (coincidenceCheck s).bcpsAi = s.bcpsAi := by unfold coincidenceCheck; split <;> simp
@[simp] theorem coincidenceCheck_ocpsIdx_eq (s : State) : (coincidenceCheck s).ocpsIdx = s.ocpsIdx := by unfold coincidenceCheck; split <;> simp
@[simp] theorem coincidenceCheck_ocpsAi_eq (s : State) : (coincidenceCheck s).ocpsAi = s.ocpsAi := by unfold coincidenceCheck; split <;> simp
@[simp] theorem coincidenceCheck_fstate_eq (s : State) : (coincidenceCheck s).fstate = s.fstate := by unfold coincidenceCheck; split <;> simp
@[simp] theorem coincidenceCheck_fcol_eq (s : State) : (coincidenceCheck s).fcol = s.fcol := by unfold coincidenceCheck; split <;> simp
@[simp] theorem coincidenceCheck_tileIdx_eq (s : State) : (coincidenceCheck s).tileIdx = s.tileIdx := by unfold coincidenceCheck; split <;> simp
@[simp] theorem coincidenceCheck_lo_eq (s : State) : (coincidenceCheck s).lo = s.lo := by unfold coincidenceCheck; split <;> simp
@[simp] theorem coincidenceCheck_hi_eq (s : State) : (coincidenceCheck s).hi = s.hi := by unfold coincidenceCheck; split <;> simp
@[simp] theorem coincidenceCheck_fifo_eq (s : State) : (coincidenceCheck s).fifo = s.fifo := by unfold coincidenceCheck; split <;> simp
@[simp] theorem coincidenceCheck_discard_eq (s : State) : (coincidenceCheck s).discard = s.discard := by unfold coincidenceCheck; split <;> simp
@[simp] theorem coincidenceCheck_vram0_eq (s : State) : (coincidenceCheck s).vram0 = s.vram0 := by unfold coincidenceCheck; split <;> simp
@[simp] theorem coincidenceCheck_vram1_eq (s : State) : (coincidenceCheck s).vram1 = s.vram1 := by unfold coincidenceCheck; split <;> simp
@[simp] theorem coincidenceCheck_oam_eq (s : State) : (coincidenceCheck s).oam = s.oam := by unfold coincidenceCheck; split <;> simp
@[simp] theorem coincidenceCheck_bgpal_eq (s : State) : (coincidenceCheck s).bgpal = s.bgpal := by unfold coincidenceCheck; split <;> simp
@[simp] theorem coincidenceCheck_objpal_eq (s : State) : (coincidenceCheck s).objpal = s.objpal := by unfold coincidenceCheck; split <;> simp
@[simp] theorem coincidenceCheck_fb_eq (s : State) : (coincidenceCheck s).fb = s.fb := by unfold coincidenceCheck; split <;> simp
@[simp] theorem coincidenceCheck_vblankIrq_eq (s : State) : (coincidenceCheck s).vblankIrq = s.vblankIrq := by unfold coincidenceCheck; split <;> simp
@[simp] theorem coincidenceCheck_dmaActive_eq (s : State) : (coincidenceCheck s).dmaActive = s.dmaActive := by unfold coincidenceCheck; split <;> simp
@[simp] theorem coincidenceCheck_fault_eq (s : State) : (coincidenceCheck s).fault = s.fault := by unfold coincidenceCheck; split <;> simp
@[simp] theorem coincidenceCheck_readByte_eq (s : State) : (coincidenceCheck s).readByte = s.readByte := by unfold coincidenceCheck; split <;> simp
@[simp] theorem coincidenceCheck_requests_eq (s : State) : (coincidenceCheck s).requests = s.requests := by unfold coincidenceCheck; split <;> simp
@[simp] theorem coincidenceCheck_statIrq_eq (s : State) :
    (coincidenceCheck s).statIrq = (s.statIrq || (coincidence s && bit s.statSel 6)) := by
  unfold coincidenceCheck
  split
  · next h => simp [h]
  · next h => simp [Bool.not_eq_true _ ▸ h]

end Sys2Proof.Machine
end

