-- ==== Sys2Proof/Laws/Pipeline.lean ====
section
/-!
SUPPORT. What the pipeline's steps can do: the ranges of the fetcher's addresses (R103, R104), when a fetch faults (R111), and
one inversion lemma and one frame lemma for each step and for the pseudo-cycle (R99).
-/

namespace Sys2Proof.Machine

/-! ### Addresses -/

theorem tileRow_lt (s : State) : tileRow s < 32 := by unfold tileRow; omega

theorem tileCol_lt (s : State) : tileCol s < 32 := by unfold tileCol; omega

theorem rowOff_le (s : State) : rowOff s ≤ 14 := by unfold rowOff; omega

/-- The tilemap address lies in one of the two maps (R102). -/
theorem mapAddr_range (s : State) : 0x9800 ≤ mapAddr s ∧ mapAddr s ≤ 0x9FFF := by
  have h1 := tileRow_lt s
  have h2 := tileCol_lt s
  unfold mapAddr mapBase
  split <;> omega

theorem vramFetch_ok {s : State} {a : Nat} (h : 0x8000 ≤ a ∧ a ≤ 0x9FFF) :
    vramFetch s a = .ok (s.vram0.read (a - 0x8000)) := by
  unfold vramFetch
  rw [if_neg (by omega)]

theorem vramFetch_error {s : State} {a : Nat} (h : a < 0x8000 ∨ 0x9FFF < a) : vramFetch s a = .error (.fetchFault a) := by
  unfold vramFetch
  rw [if_pos h]

/-- A fetch hands the byte on, or raises the fetch fault. -/
theorem fetchByte_cases (s : State) (a : Nat) (use : Byte → State) :
    (0x8000 ≤ a ∧ a ≤ 0x9FFF ∧ fetchByte s a use = use (s.vram0.read (a - 0x8000))) ∨
      ((a < 0x8000 ∨ 0x9FFF < a) ∧ fetchByte s a use = s.raise (.fetchFault a)) := by
  unfold fetchByte
  by_cases h : a < 0x8000 ∨ 0x9FFF < a
  · rw [vramFetch_error h]
    exact .inr ⟨h, rfl⟩
  · rw [vramFetch_ok (by omega)]
    exact .inl ⟨by omega, by omega, rfl⟩

/-- The signed tile number offset by 128 (R104), on naturals. -/
theorem signed_offset (v : Byte) : (v.toInt + 128).toNat = if v.toNat < 128 then v.toNat + 128 else v.toNat - 128 := by
  rw [BitVec.toInt_eq_toNat_cond]
  have := v.isLt
  split <;> split <;> omega

/-- Mode 0 with a tile number below 0x80, and mode 1, address inside the VRAM window; mode 0 with 0x80 or more addresses
0x7800–0x7FF0 (R104). -/
theorem tileAddr_range (s : State) :
    (bit s.lcdc 4 = true ∨ s.tileIdx.toNat < 128 → 0x8000 ≤ tileAddr s ∧ tileAddr s ≤ 0x8FF0) ∧
      (bit s.lcdc 4 = false → 128 ≤ s.tileIdx.toNat → 0x7800 ≤ tileAddr s ∧ tileAddr s ≤ 0x7FF0) := by
  have hl := s.tileIdx.isLt
  unfold tileAddr
  rw [signed_offset]
  unfold tdSignedBase tdUnsignedBase
  refine ⟨fun h => ?_, fun h h' => ?_⟩
  · split
    · omega
    · next hb =>
      rw [if_pos (h.resolve_left hb)]
      have := h.resolve_left hb
      omega
  · simp only [h, Bool.false_eq_true, if_false]
    rw [if_neg (by omega)]
    omega

/-! ### The fetcher -/

/-- The tile-number read never faults (R102). -/
theorem readTileStep_eq (s : State) :
    readTileStep s = { s with tileIdx := s.vram0.read (mapAddr s - 0x8000), fstate := .idle .low } := by
  have h := mapAddr_range s
  unfold readTileStep fetchByte
  rw [vramFetch_ok (by omega)]

/-- Everything one fetcher step can do (R100 to R109). -/
theorem fetcherStep_cases (s : State) :
    (∃ next, s.fstate = .idle next ∧ fetcherStep s = { s with fstate := next.target }) ∨
    (s.fstate = .readTile ∧
      fetcherStep s = { s with tileIdx := s.vram0.read (mapAddr s - 0x8000), fstate := .idle .low }) ∨
    (s.fstate = .readLow ∧ 0x8000 ≤ lowAddr s ∧
      fetcherStep s = { s with lo := s.vram0.read (lowAddr s - 0x8000), fstate := .idle .high }) ∨
    (s.fstate = .readLow ∧ lowAddr s < 0x8000 ∧ fetcherStep s = s.raise (.fetchFault (lowAddr s))) ∨
    (s.fstate = .readHigh ∧ 0x8000 ≤ highAddr s ∧
      fetcherStep s = { s with hi := s.vram0.read (highAddr s - 0x8000), fstate := .push .advance }) ∨
    (s.fstate = .readHigh ∧ highAddr s < 0x8000 ∧ fetcherStep s = s.raise (.fetchFault (highAddr s))) ∨
    (s.fstate = .push .advance ∧ fetcherStep s = { s with fcol := s.fcol + 1#5, fstate := .push .commit }) ∨
    (s.fstate = .push .commit ∧ s.fifo.length ≤ 8 ∧
      fetcherStep s = { s with fifo := s.fifo ++ tilePixels s.lo s.hi, fstate := .idle .tile }) ∨
    (s.fstate = .push .commit ∧ 8 < s.fifo.length ∧ fetcherStep s = s) := by
  have hr := rowOff_le s
  have ht := tileAddr_range s
  have htop : tileAddr s ≤ 0x8FF0 := by
    by_cases h : bit s.lcdc 4 = true ∨ s.tileIdx.toNat < 128
    · exact (ht.1 h).2
    · rw [not_or, Bool.not_eq_true] at h
      have := (ht.2 h.1 (by omega)).2
      omega
  cases hf : s.fstate with
  | idle next => exact .inl ⟨next, rfl, by simp [fetcherStep, hf]⟩
  | readTile => exact .inr (.inl ⟨rfl, by simp [fetcherStep, hf, readTileStep_eq]⟩)
  | readLow =>
    rcases fetchByte_cases s (lowAddr s) fun v => { s with lo := v, fstate := .idle .high } with ⟨h1, _, h⟩ | ⟨h1, h⟩
    · exact .inr (.inr (.inl ⟨rfl, h1, by simp only [fetcherStep, hf]; exact h⟩))
    · refine .inr (.inr (.inr (.inl ⟨rfl, ?_, by simp only [fetcherStep, hf]; exact h⟩)))
      unfold lowAddr at *
      omega
  | readHigh =>
    rcases fetchByte_cases s (highAddr s) fun v => { s with hi := v, fstate := .push .advance } with ⟨h1, _, h⟩ | ⟨h1, h⟩
    · exact .inr (.inr (.inr (.inr (.inl ⟨rfl, h1, by simp only [fetcherStep, hf]; exact h⟩))))
    · refine .inr (.inr (.inr (.inr (.inr (.inl ⟨rfl, ?_, by simp only [fetcherStep, hf]; exact h⟩)))))
      unfold highAddr at *
      omega
  | push phase =>
    cases phase with
    | advance => exact .inr (.inr (.inr (.inr (.inr (.inr (.inl ⟨rfl, by simp [fetcherStep, hf, advanceStep]⟩))))))
    | commit =>
      by_cases h : s.fifo.length ≤ 8
      · exact .inr (.inr (.inr (.inr (.inr (.inr (.inr (.inl
          ⟨rfl, h, by simp [fetcherStep, hf, commitStep, fifoThreshold, h]⟩)))))))
      · exact .inr (.inr (.inr (.inr (.inr (.inr (.inr (.inr
          ⟨rfl, by omega, by simp [fetcherStep, hf, commitStep, fifoThreshold, h]⟩)))))))

/-- A fetcher step changes at most `fstate`, `fcol`, the three latches, the FIFO and the fault. -/
theorem fetcherStep_frame (s : State) :
    fetcherStep s =
      { s with
        fstate := (fetcherStep s).fstate, fcol := (fetcherStep s).fcol, tileIdx := (fetcherStep s).tileIdx
        lo := (fetcherStep s).lo, hi := (fetcherStep s).hi, fifo := (fetcherStep s).fifo
        fault := (fetcherStep s).fault } := by
  rcases fetcherStep_cases s with ⟨n, _, h⟩ | ⟨_, h⟩ | ⟨_, _, h⟩ | ⟨_, _, h⟩ | ⟨_, _, h⟩ | ⟨_, _, h⟩ | ⟨_, h⟩ | ⟨_, _, h⟩ |
    ⟨_, _, h⟩ <;> rw [h] <;> rfl

/-! ### The FIFO -/

/-- Everything one FIFO step can do (R112 to R114). -/
theorem fifoStep_cases (c : Config) (s : State) :
    (s.fifo.length ≤ 8 ∧ fifoStep c s = s) ∨ (8 < s.fifo.length ∧ 0 < s.discard ∧ fifoStep c s = discardPop s) ∨
      (8 < s.fifo.length ∧ s.discard = 0 ∧ fifoStep c s = emitPop c s) := by
  unfold fifoStep fifoThreshold
  split
  · next h => exact .inl ⟨h, rfl⟩
  · split
    · next h h' => exact .inr (.inl ⟨by omega, h', rfl⟩)
    · next h h' => exact .inr (.inr ⟨by omega, by omega, rfl⟩)

/-- A FIFO step changes at most the FIFO, `discard`, `borrowed`, the framebuffer and the cursor. -/
theorem fifoStep_frame (c : Config) (s : State) :
    fifoStep c s =
      { s with
        fifo := (fifoStep c s).fifo, discard := (fifoStep c s).discard, borrowed := (fifoStep c s).borrowed
        fb := (fifoStep c s).fb, cursor := (fifoStep c s).cursor } := by
  rcases fifoStep_cases c s with ⟨_, h⟩ | ⟨_, _, h⟩ | ⟨_, _, h⟩ <;> rw [h] <;> rfl

/-! ### The pseudo-cycle -/

/-- A pseudo-cycle is its fetcher step alone when that raises a fault, and otherwise the two steps (R99, R174). -/
theorem pseudoCycle_cases (c : Config) (s : State) :
    ((fetcherStep s).fault = none ∧ pseudoCycle c s = fifoStep c (fetcherStep s)) ∨
      ((fetcherStep s).fault ≠ none ∧ pseudoCycle c s = fetcherStep s) := by
  by_cases h : (fetcherStep s).fault = none
  · exact .inl ⟨h, andThen_running h _⟩
  · exact .inr ⟨h, andThen_stopped h _⟩

/-- A pseudo-cycle changes no register, no memory but the framebuffer, no latch and not the scheduler's own state. -/
theorem pseudoCycle_frame (c : Config) (s : State) :
    pseudoCycle c s =
      { s with
        fstate := (pseudoCycle c s).fstate, fcol := (pseudoCycle c s).fcol, tileIdx := (pseudoCycle c s).tileIdx
        lo := (pseudoCycle c s).lo, hi := (pseudoCycle c s).hi, fifo := (pseudoCycle c s).fifo
        fault := (pseudoCycle c s).fault, discard := (pseudoCycle c s).discard, borrowed := (pseudoCycle c s).borrowed
        fb := (pseudoCycle c s).fb, cursor := (pseudoCycle c s).cursor } := by
  rcases pseudoCycle_cases c s with ⟨_, h⟩ | ⟨_, h⟩
  · rw [h, fifoStep_frame c (fetcherStep s), fetcherStep_frame s]
  · rw [h, fetcherStep_frame s]

end Sys2Proof.Machine
end

