-- ==== Sys2Proof/Laws/Scheduler.lean ====
section
/-!
SUPPORT. The scheduler, cycle by cycle. `cycle` is one budget cycle; the tick loop of R78 equals that many cycles on every
state whose clock is in range (R17, R80), so that a proof about TICK is an induction over single cycles.
-/

namespace Sys2Proof.Machine

/-- What the tick loop needs of a state: its clock is in range (R17) and the HBlank length is positive (R83). -/
abbrev Ready (s : State) : Prop := s.clockInRange ∧ s.discard + s.borrowed ≤ 7

/-- One budget cycle. -/
def cycle (c : Config) (s : State) : State := (modeHandler c 1 s).2

/-- `n` budget cycles; a fault ends them (R174). -/
def cycles (c : Config) : Nat → State → State
  | 0, s => s
  | n + 1, s => if s.fault = none then cycles c n (cycle c s) else s

@[simp] theorem cycles_zero (c : Config) (s : State) : cycles c 0 s = s := rfl

theorem cycles_succ (c : Config) (n : Nat) {s : State} (h : s.fault = none) : cycles c (n + 1) s = cycles c n (cycle c s) := by
  rw [cycles, if_pos h]

theorem cycles_stopped (c : Config) (n : Nat) {s : State} (h : s.fault ≠ none) : cycles c n s = s := by
  cases n with
  | zero => rfl
  | succ n => rw [cycles, if_neg h]

theorem cycles_add (c : Config) (a b : Nat) (s : State) : cycles c (a + b) s = cycles c b (cycles c a s) := by
  induction a generalizing s with
  | zero => simp
  | succ a ih =>
    by_cases h : s.fault = none
    · rw [show a + 1 + b = a + b + 1 by omega, cycles_succ c _ h, cycles_succ c _ h, ih]
    · rw [cycles_stopped c _ h, cycles_stopped c _ h, cycles_stopped c _ h]

/-! ### The handlers of the fixed-length modes -/

/-- A budget that does not reach the mode's length only advances the clock. -/
theorem timedHandler_within {len : Nat} {tr : State → State} {b : Nat} {s : State} (h : s.modeClock + b < len) :
    timedHandler len tr b s = (0, { s with modeClock := s.modeClock + b }) := by
  unfold timedHandler
  rw [Nat.min_eq_left (by omega)]
  simp only [Nat.sub_self]
  rw [if_neg (by omega)]

/-- A budget that reaches the mode's length takes the transition and leaves the rest (R80). -/
theorem timedHandler_reach {len : Nat} {tr : State → State} {b : Nat} {s : State} (h : s.modeClock ≤ len)
    (hb : len ≤ s.modeClock + b) :
    timedHandler len tr b s = (b - (len - s.modeClock), tr { s with modeClock := len }) := by
  unfold timedHandler
  rw [Nat.min_eq_right (by omega)]
  simp only
  rw [show s.modeClock + (len - s.modeClock) = len by omega, if_pos rfl]

theorem modeHandler_search (c : Config) (b : Nat) {s : State} (h : s.mode = .search) :
    modeHandler c b s = timedHandler searchLength enterTransfer b s := by simp [modeHandler, h, searchHandler]

theorem modeHandler_hblank (c : Config) (b : Nat) {s : State} (h : s.mode = .hblank) :
    modeHandler c b s = timedHandler (hblankLength s) endHBlank b s := by simp [modeHandler, h, hblankHandler]

theorem modeHandler_vblank (c : Config) (b : Nat) {s : State} (h : s.mode = .vblank) :
    modeHandler c b s = timedHandler slotLength vblankSlotEnd b s := by simp [modeHandler, h, vblankHandler]

theorem modeHandler_transfer (c : Config) (b : Nat) {s : State} (h : s.mode = .transfer) :
    modeHandler c b s = transferHandler c b s := by simp [modeHandler, h]

theorem cycle_transfer (c : Config) {s : State} (h : s.mode = .transfer) : cycle c s = transferCycle c s := by
  rw [cycle, modeHandler_transfer c 1 h, transferHandler]
  split <;> rfl

/-- Cycles that stay below the length of a timed mode only advance the clock. -/
theorem cycles_timed {c : Config} {len : Nat} {tr : State → State} {s : State} (hf : s.fault = none)
    (hc : ∀ k, cycle c { s with modeClock := k } = (timedHandler len tr 1 { s with modeClock := k }).2) (b k : Nat)
    (h : k + b < len) : cycles c b { s with modeClock := k } = { s with modeClock := k + b } := by
  induction b generalizing k with
  | zero => rfl
  | succ b ih =>
    rw [cycles_succ c b (by exact hf), hc, timedHandler_within (by show k + 1 < len; omega)]
    show cycles c b { s with modeClock := k + 1 } = _
    rw [ih (k + 1) (by omega)]
    congr 1
    omega

/-- The cycle that reaches the length takes the transition. -/
theorem cycles_timed_reach {c : Config} {len : Nat} {tr : State → State} {s : State} (hf : s.fault = none)
    (hc : ∀ k, cycle c { s with modeClock := k } = (timedHandler len tr 1 { s with modeClock := k }).2) (k : Nat)
    (h : k < len) : cycles c (len - k) { s with modeClock := k } = tr { s with modeClock := len } := by
  obtain ⟨b, hb⟩ : ∃ b, len - k = b + 1 := ⟨len - k - 1, by omega⟩
  rw [hb, cycles_add c b 1, cycles_timed hf hc b k (by omega), cycles_succ c 0 (by exact hf), hc, cycles_zero,
    timedHandler_reach (by show k + b ≤ len; omega) (by show len ≤ k + b + 1; omega)]

theorem cycle_timed_search (c : Config) {s : State} (h : s.mode = .search) (k : Nat) :
    cycle c { s with modeClock := k } = (timedHandler searchLength enterTransfer 1 { s with modeClock := k }).2 := by
  rw [cycle, modeHandler_search c 1 (by exact h)]

theorem cycle_timed_hblank (c : Config) {s : State} (h : s.mode = .hblank) (k : Nat) :
    cycle c { s with modeClock := k } = (timedHandler (hblankLength s) endHBlank 1 { s with modeClock := k }).2 := by
  rw [cycle, modeHandler_hblank c 1 (by exact h)]
  rfl

theorem cycle_timed_vblank (c : Config) {s : State} (h : s.mode = .vblank) (k : Nat) :
    cycle c { s with modeClock := k } = (timedHandler slotLength vblankSlotEnd 1 { s with modeClock := k }).2 := by
  rw [cycle, modeHandler_vblank c 1 (by exact h)]

/-! ### What a line increment leaves -/

/-- The end of HBlank enters VBlank after line 143 and Search otherwise, with the clock restarted (R87). -/
theorem endHBlank_cases (s : State) :
    (143#8 < s.ly + 1#8 ∧ endHBlank s = enterVBlank (startLine s (s.ly + 1#8))) ∨
      (¬ 143#8 < s.ly + 1#8 ∧ endHBlank s = enterSearch (startLine s (s.ly + 1#8))) := by
  have h : (startLine s (s.ly + 1#8)).ly = s.ly + 1#8 := by simp [startLine]
  unfold endHBlank
  simp only [h]
  split
  · next h' => exact .inl ⟨h', rfl⟩
  · next h' => exact .inr ⟨h', rfl⟩

/-- The end of a VBlank slot (R90). -/
theorem vblankSlotEnd_cases (s : State) :
    (s.ly = 0#8 ∧ vblankSlotEnd s = enterSearch { s with modeClock := 0, ly := 0#8 }) ∨
      (s.ly ≠ 0#8 ∧ s.ly + 1#8 = 153#8 ∧ vblankSlotEnd s = startLine s 0#8) ∨
      (s.ly ≠ 0#8 ∧ s.ly + 1#8 ≠ 153#8 ∧ vblankSlotEnd s = startLine s (s.ly + 1#8)) := by
  unfold vblankSlotEnd
  by_cases h : s.ly = 0#8
  · exact .inl ⟨h, by rw [if_pos h]⟩
  · by_cases h' : s.ly + 1#8 = 153#8
    · exact .inr (.inl ⟨h, h', by rw [if_neg h, if_pos h']⟩)
    · exact .inr (.inr ⟨h, h', by rw [if_neg h, if_neg h']⟩)

/-! ### Transfer -/

theorem closeTransferCycle_cases (s : State) :
    (s.cursor = 160 ∧ closeTransferCycle s = enterHBlank { s with modeClock := s.modeClock + 1 }) ∨
      (s.cursor ≠ 160 ∧ closeTransferCycle s = { s with modeClock := s.modeClock + 1 }) := by
  unfold closeTransferCycle
  by_cases h : s.cursor = 160
  · exact .inl ⟨h, by simp only [if_pos h]⟩
  · exact .inr ⟨h, by simp only [if_neg h]⟩

/-- A Transfer cycle is its pseudo-cycle alone when that raises a fault, and is closed by the clock otherwise (R82, R174). -/
theorem transferCycle_cases (c : Config) (s : State) :
    ((pseudoCycle c s).fault = none ∧ transferCycle c s = closeTransferCycle (pseudoCycle c s)) ∨
      ((pseudoCycle c s).fault ≠ none ∧ transferCycle c s = pseudoCycle c s) := by
  by_cases h : (pseudoCycle c s).fault = none
  · exact .inl ⟨h, andThen_running h _⟩
  · exact .inr ⟨h, andThen_stopped h _⟩

/-- A pseudo-cycle moves discarded pixels from `discard` to `borrowed` and changes their sum in no other way (R113). -/
theorem pseudoCycle_discards (c : Config) (s : State) :
    (pseudoCycle c s).discard + (pseudoCycle c s).borrowed = s.discard + s.borrowed := by
  have hd : (fetcherStep s).discard = s.discard := by rw [fetcherStep_frame]
  have hb : (fetcherStep s).borrowed = s.borrowed := by rw [fetcherStep_frame]
  rcases pseudoCycle_cases c s with ⟨_, h⟩ | ⟨_, h⟩
  · rw [h]
    rcases fifoStep_cases c (fetcherStep s) with ⟨_, h⟩ | ⟨_, hpos, h⟩ | ⟨_, _, h⟩
    · rw [h, hd, hb]
    · rw [h, discardPop_discard_eq, discardPop_borrowed_eq]
      omega
    · rw [h, emitPop_discard_eq, emitPop_borrowed_eq, hd, hb]
  · rw [h, hd, hb]

theorem transferCycle_discards (c : Config) (s : State) :
    (transferCycle c s).discard + (transferCycle c s).borrowed = s.discard + s.borrowed := by
  rw [← pseudoCycle_discards c s]
  rcases transferCycle_cases c s with ⟨_, h⟩ | ⟨_, h⟩
  · rw [h]
    rcases closeTransferCycle_cases (pseudoCycle c s) with ⟨_, h⟩ | ⟨_, h⟩
    · rw [h]; simp [enterHBlank]
    · rw [h]
  · rw [h]

/-- The mode after a Transfer cycle. -/
theorem transferCycle_mode (c : Config) {s : State} (h : s.mode = .transfer) :
    (transferCycle c s).mode = .transfer ∨ ((transferCycle c s).mode = .hblank ∧ (transferCycle c s).modeClock = 0) := by
  have hm : (pseudoCycle c s).mode = .transfer := by rw [pseudoCycle_frame]; exact h
  rcases transferCycle_cases c s with ⟨_, h⟩ | ⟨_, h⟩
  · rw [h]
    rcases closeTransferCycle_cases (pseudoCycle c s) with ⟨_, h⟩ | ⟨_, h⟩
    · right; rw [h]; simp [enterHBlank]
    · left; rw [h]; exact hm
  · left; rw [h]; exact hm

/-! ### Readiness -/

theorem ready_zero {s : State} (hc : s.modeClock = 0) (hd : s.discard + s.borrowed ≤ 7) : Ready s := by
  refine ⟨⟨fun _ => ?_, fun _ => ?_, fun _ => ?_⟩, hd⟩ <;> rw [hc]
  · decide
  · unfold hblankLength; omega
  · decide

theorem ready_transferCycle (c : Config) {s : State} (hm : s.mode = .transfer) (h : Ready s) : Ready (transferCycle c s) := by
  have hd : (transferCycle c s).discard + (transferCycle c s).borrowed ≤ 7 := by rw [transferCycle_discards]; exact h.2
  rcases transferCycle_mode c hm with h1 | ⟨_, h2⟩
  · exact ⟨⟨by simp [h1], by simp [h1], by simp [h1]⟩, hd⟩
  · exact ready_zero h2 hd

theorem ready_enterTransfer (s : State) : Ready (enterTransfer s) := by
  refine ready_zero rfl ?_
  simp
  omega

theorem ready_endHBlank {s : State} (h : s.discard + s.borrowed ≤ 7) : Ready (endHBlank s) := by
  rcases endHBlank_cases s with ⟨_, h'⟩ | ⟨_, h'⟩ <;> rw [h'] <;>
    exact ready_zero (by simp [enterVBlank, enterSearch]) (by simpa [enterVBlank, enterSearch, startLine] using h)

theorem ready_vblankSlotEnd {s : State} (h : s.discard + s.borrowed ≤ 7) : Ready (vblankSlotEnd s) := by
  rcases vblankSlotEnd_cases s with ⟨_, h'⟩ | ⟨_, _, h'⟩ | ⟨_, _, h'⟩ <;> rw [h'] <;>
    exact ready_zero (by simp [enterSearch, startLine]) (by simpa [enterSearch, startLine] using h)

/-! ### The loop -/

/-- A turn of a timed mode, in cycles. -/
theorem timed_turn {c : Config} {len : Nat} {tr : State → State} {s : State} (hf : s.fault = none)
    (hc : ∀ k, cycle c { s with modeClock := k } = (timedHandler len tr 1 { s with modeClock := k }).2)
    (hl : s.modeClock < len) {b : Nat} (hb : 0 < b) :
    (timedHandler len tr b s).1 < b ∧
      cycles c b s = cycles c (timedHandler len tr b s).1 (timedHandler len tr b s).2 ∧
      ((timedHandler len tr b s).2 = { s with modeClock := s.modeClock + b } ∧ s.modeClock + b < len ∨
        (timedHandler len tr b s).2 = tr { s with modeClock := len }) := by
  by_cases h : s.modeClock + b < len
  · rw [timedHandler_within h]
    exact ⟨hb, cycles_timed hf hc b s.modeClock h, .inl ⟨rfl, h⟩⟩
  · rw [timedHandler_reach (by omega) (by omega)]
    refine ⟨by show b - _ < b; omega, ?_, .inr rfl⟩
    have hb' : b = (len - s.modeClock) + (b - (len - s.modeClock)) := by omega
    conv_lhs => rw [hb', cycles_add]
    rw [show cycles c (len - s.modeClock) s = tr { s with modeClock := len } from cycles_timed_reach hf hc s.modeClock hl]

/-- The Transfer handler runs single cycles. -/
theorem transferHandler_turn (c : Config) {b : Nat} {s : State} (hm : s.mode = .transfer) (hf : s.fault = none)
    (hr : Ready s) :
    (0 < b → (transferHandler c b s).1 < b) ∧
      cycles c b s = cycles c (transferHandler c b s).1 (transferHandler c b s).2 ∧ Ready (transferHandler c b s).2 := by
  induction b generalizing s with
  | zero => exact ⟨by simp, rfl, hr⟩
  | succ b ih =>
    have hr' := ready_transferCycle c hm hr
    rw [cycles_succ c b hf, cycle_transfer c hm, transferHandler]
    split
    · next h =>
      obtain ⟨h1, h2, h3⟩ := ih h.1 h.2 hr'
      refine ⟨fun _ => ?_, h2, h3⟩
      by_cases hb : 0 < b
      · have := h1 hb; omega
      · obtain rfl : b = 0 := by omega
        simp [transferHandler]
    · exact ⟨by simp, rfl, hr'⟩

/-- A turn of the tick loop uses at least one cycle and agrees with the single cycles (R94). -/
theorem modeHandler_turn (c : Config) {b : Nat} {s : State} (hf : s.fault = none) (hr : Ready s) (hb : 0 < b) :
    (modeHandler c b s).1 < b ∧ cycles c b s = cycles c (modeHandler c b s).1 (modeHandler c b s).2 ∧
      Ready (modeHandler c b s).2 := by
  cases hm : s.mode with
  | search =>
    rw [modeHandler_search c b hm]
    obtain ⟨h1, h2, h3⟩ := timed_turn hf (cycle_timed_search c hm) (hr.1.1 hm) hb
    refine ⟨h1, h2, ?_⟩
    rcases h3 with ⟨h3, h4⟩ | h3 <;> rw [h3]
    · exact ⟨⟨fun _ => h4, by simp [hm], by simp [hm]⟩, hr.2⟩
    · exact ready_enterTransfer _
  | transfer =>
    rw [modeHandler_transfer c b hm]
    obtain ⟨h1, h2, h3⟩ := transferHandler_turn c (b := b) hm hf hr
    exact ⟨h1 hb, h2, h3⟩
  | hblank =>
    rw [modeHandler_hblank c b hm]
    obtain ⟨h1, h2, h3⟩ := timed_turn hf (cycle_timed_hblank c hm) (hr.1.2.1 hm) hb
    refine ⟨h1, h2, ?_⟩
    rcases h3 with ⟨h3, h4⟩ | h3 <;> rw [h3]
    · exact ⟨⟨by simp [hm], fun _ => h4, by simp [hm]⟩, hr.2⟩
    · exact ready_endHBlank hr.2
  | vblank =>
    rw [modeHandler_vblank c b hm]
    obtain ⟨h1, h2, h3⟩ := timed_turn hf (cycle_timed_vblank c hm) (hr.1.2.2 hm) hb
    refine ⟨h1, h2, ?_⟩
    rcases h3 with ⟨h3, h4⟩ | h3 <;> rw [h3]
    · exact ⟨⟨by simp [hm], by simp [hm], fun _ => h4⟩, hr.2⟩
    · exact ready_vblankSlotEnd hr.2

/-- The tick loop is the single cycles: with a clock in range, as many turns as there are cycles are enough. -/
theorem tickLoop_eq_cycles (c : Config) {turns b : Nat} {s : State} (hr : Ready s) (hb : b ≤ turns) :
    tickLoop c turns b s = cycles c b s := by
  induction turns generalizing b s with
  | zero =>
    obtain rfl : b = 0 := by omega
    rfl
  | succ turns ih =>
    rw [tickLoop]
    split
    · next h =>
      rcases h with rfl | h
      · rfl
      · rw [cycles_stopped c b h]
    · next h =>
      rw [not_or, not_not] at h
      obtain ⟨h1, h2, h3⟩ := modeHandler_turn c h.2 hr (by omega : 0 < b)
      simp only
      rw [ih h3 (by omega), h2]

/-- TICK with the display enabled is that many cycles (R78). -/
theorem tick_eq_cycles (c : Config) (n : Nat) {s : State} (he : s.displayEnabled = true) (hr : Ready s) :
    tick c n s = cycles c n s := by
  rw [tick, if_pos he, tickLoop_eq_cycles c hr (by omega)]

end Sys2Proof.Machine
end

