-- ==== Sys2Proof/Tests/Slice0.lean ====
section
/-!
SUPPORT. The model's own tests: ill-formed operations are refused, a written-out word for every operation decodes to it, one
small step for every operation, and for every obligation with hypotheses a concrete state that meets them. Expected results
are those of spec/95_test_vectors.md (named L1, L2, L3) or of the rule's own worked example.
-/

namespace Sys2Proof.Machine

/-! ### Helpers -/

/-- The next state an outcome answers. -/
def ran : Host.Outcome State Fault Refusal → Option State
  | .next s => some s
  | .fault _ => none
  | .refused _ => none

/-- The fault an outcome answers. -/
def faulted : Host.Outcome State Fault Refusal → Option Fault
  | .next _ => none
  | .fault f => some f
  | .refused _ => none

/-- The refusal an outcome answers. -/
def refusal : Host.Outcome State Fault Refusal → Option Refusal
  | .next _ => none
  | .fault _ => none
  | .refused r => some r

/-- The byte an operation returns. -/
def returned (i : Instr) (s : State) : Option Byte := (ran (exec i s)).bind (·.readByte)

/-- The power-on state with the display enabled, `from enable` of 95_test_vectors.md. -/
def enabled : State := { State.reset with lcdc := 0x91#8 }

/-- An enabled state in a mode, with a clock and a line. -/
def inMode (m : Mode) (clock : Nat) (ly : Byte) : State := { enabled with mode := m, modeClock := clock, ly := ly }

/-- In Transfer, in a fetcher state. -/
def fetching (f : FetcherState) : State := { inMode .transfer 3 1#8 with fstate := f }

/-- A configuration with visible parameters. -/
def testConfig : Config where
  colorMode := .enhanced
  monoShade := fun k => ⟨k.setWidth 8, 0x11#8, 0x22#8, 0x33#8⟩
  unusedBitRead := 1#1

/-- The same in the monochrome mode, with unused bits reading 0. -/
def monoConfig : Config := { testConfig with colorMode := .monochrome, unusedBitRead := 0#1 }

/-! ### Well-formedness: an ill-formed operation for each check -/

/-- R51, R52, R55: an address outside the range its mnemonic names. -/
theorem test_wellFormed_refuses :
    (Instr.readVram 0x7FFF#16).wellFormed = false ∧ (Instr.readVram 0xA000#16).wellFormed = false ∧
    (Instr.writeVram 0x7FFF#16 0#8).wellFormed = false ∧ (Instr.writeVram 0xA000#16 0#8).wellFormed = false ∧
    (Instr.readOam 0xFDFF#16).wellFormed = false ∧ (Instr.readOam 0xFEA0#16).wellFormed = false ∧
    (Instr.writeOam 0xFDFF#16 0#8).wellFormed = false ∧ (Instr.writeOam 0xFEA0#16 0#8).wellFormed = false ∧
    (Instr.readUnmapped 0xFF40#16).wellFormed = false ∧ (Instr.readUnmapped 0x8000#16).wellFormed = false ∧
    (Instr.writeUnmapped 0xFE00#16 0#8).wellFormed = false ∧ (Instr.writeUnmapped 0xFF6B#16 0#8).wellFormed = false := by
  decide

/-- The bounds of every range (R55). -/
theorem test_wellFormed_accepts :
    (Instr.readVram 0x8000#16).wellFormed = true ∧ (Instr.writeVram 0x9FFF#16 0#8).wellFormed = true ∧
    (Instr.readOam 0xFE00#16).wellFormed = true ∧ (Instr.writeOam 0xFE9F#16 0#8).wellFormed = true ∧
    (Instr.readUnmapped 0x7FFF#16).wellFormed = true ∧ (Instr.readUnmapped 0xFEA0#16).wellFormed = true ∧
    (Instr.writeUnmapped 0xFF4C#16 0#8).wellFormed = true ∧ (Instr.writeUnmapped 0xFF6C#16 0#8).wellFormed = true := by
  decide

/-! ### Decoding: the words of R72 written out, and L2-E -/

theorem test_decode_memory :
    decode ⟨0b000_1000000100100011#19, 0⟩ = .ok (.readVram 0x8123#16) ∧
    decode ⟨0b001_1001111111111111#19, 0x22⟩ = .ok (.writeVram 0x9FFF#16 0x22#8) ∧
    decode ⟨0b000_1111111010011111#19, 0⟩ = .ok (.readOam 0xFE9F#16) ∧
    decode ⟨0b001_1111111000010000#19, 0x42⟩ = .ok (.writeOam 0xFE10#16 0x42#8) ∧
    decode ⟨0b000_1111111010100000#19, 0⟩ = .ok (.readUnmapped 0xFEA0#16) ∧
    decode ⟨0b001_0000000000000000#19, 7⟩ = .ok (.writeUnmapped 0x0000#16 7#8) := by decide

theorem test_decode_registers_read :
    decode ⟨0x0FF40#19, 0⟩ = .ok .readLcdc ∧ decode ⟨0x0FF41#19, 0⟩ = .ok .readStat ∧
    decode ⟨0x0FF42#19, 0⟩ = .ok .readScy ∧ decode ⟨0x0FF43#19, 0⟩ = .ok .readScx ∧
    decode ⟨0x0FF44#19, 0⟩ = .ok .readLy ∧ decode ⟨0x0FF45#19, 0⟩ = .ok .readLyc ∧
    decode ⟨0x0FF46#19, 0⟩ = .ok .readDma ∧ decode ⟨0x0FF47#19, 0⟩ = .ok .readBgp ∧
    decode ⟨0x0FF48#19, 0⟩ = .ok .readObp0 ∧ decode ⟨0x0FF49#19, 0⟩ = .ok .readObp1 ∧
    decode ⟨0x0FF4A#19, 0⟩ = .ok .readWy ∧ decode ⟨0x0FF4B#19, 0⟩ = .ok .readWx ∧
    decode ⟨0x0FF4F#19, 0⟩ = .ok .readVbk ∧ decode ⟨0x0FF68#19, 0⟩ = .ok .readBcps ∧
    decode ⟨0x0FF69#19, 0⟩ = .ok .readBcpd ∧ decode ⟨0x0FF6A#19, 0⟩ = .ok .readOcps ∧
    decode ⟨0x0FF6B#19, 0⟩ = .ok .readOcpd := by decide

theorem test_decode_registers_write :
    decode ⟨0x1FF40#19, 0x91⟩ = .ok (.writeLcdc 0x91#8) ∧ decode ⟨0x1FF41#19, 0x40⟩ = .ok (.writeStat 0x40#8) ∧
    decode ⟨0x1FF42#19, 0x10⟩ = .ok (.writeScy 0x10#8) ∧ decode ⟨0x1FF43#19, 0x03⟩ = .ok (.writeScx 0x03#8) ∧
    decode ⟨0x1FF44#19, 0x05⟩ = .ok (.writeLy 0x05#8) ∧ decode ⟨0x1FF45#19, 0x90⟩ = .ok (.writeLyc 0x90#8) ∧
    decode ⟨0x1FF46#19, 0xC0⟩ = .ok (.writeDma 0xC0#8) ∧ decode ⟨0x1FF47#19, 0xE4⟩ = .ok (.writeBgp 0xE4#8) ∧
    decode ⟨0x1FF48#19, 0xD2⟩ = .ok (.writeObp0 0xD2#8) ∧ decode ⟨0x1FF49#19, 0x01⟩ = .ok (.writeObp1 0x01#8) ∧
    decode ⟨0x1FF4A#19, 0x40⟩ = .ok (.writeWy 0x40#8) ∧ decode ⟨0x1FF4B#19, 0x07⟩ = .ok (.writeWx 0x07#8) ∧
    decode ⟨0x1FF4F#19, 0xFF⟩ = .ok (.writeVbk 0xFF#8) ∧ decode ⟨0x1FF68#19, 0xC3⟩ = .ok (.writeBcps 0xC3#8) ∧
    decode ⟨0x1FF69#19, 0x7F⟩ = .ok (.writeBcpd 0x7F#8) ∧ decode ⟨0x1FF6A#19, 0x80⟩ = .ok (.writeOcps 0x80#8) ∧
    decode ⟨0x1FF6B#19, 0x12⟩ = .ok (.writeOcpd 0x12#8) := by decide

theorem test_decode_host :
    decode ⟨0b010_0000000000000000#19, 456⟩ = .ok (.tick 456) ∧
    decode ⟨0b011_0000000000000000#19, 0⟩ = .ok .ackVblank ∧ decode ⟨0b100_0000000000000000#19, 0⟩ = .ok .ackStat ∧
    decode ⟨0b101_0000000000000000#19, 1⟩ = .ok (.setDma true) ∧
    decode ⟨0b101_0000000000000000#19, 0⟩ = .ok (.setDma false) := by decide

/-- R68, R69, R73: reserved words and operands outside their types. -/
theorem test_decode_refuses :
    decode ⟨0x60000#19, 0⟩ = .error (.reservedOp 6#3) ∧ decode ⟨0x7FFFF#19, 0⟩ = .error (.reservedOp 7#3) ∧
    decode ⟨0x20001#19, 5⟩ = .error (.nonzeroAddress 2#3 0x0001#16) ∧
    decode ⟨0x1FF40#19, 256⟩ = .error (.operandOutOfRange 1#3 256) ∧
    decode ⟨0x50000#19, 2⟩ = .error (.operandOutOfRange 5#3 2) := by decide

/-- The encoder gives the words of R72 back. -/
theorem test_encode_words :
    encode (.writeLcdc 0x91#8) = ⟨0x1FF40#19, 0x91⟩ ∧ encode (.readVram 0x8123#16) = ⟨0x08123#19, 0⟩ ∧
    encode (.tick 456) = ⟨0x20000#19, 456⟩ ∧ encode (.setDma true) = ⟨0x50000#19, 1⟩ := by decide

/-- No two rows of the opcode map select a common word, but for the two UNMAPPED rows (R71, R72). -/
theorem test_rows_disjoint :
    (windowRows ++ registerRows ++ otherRows.drop 2).Pairwise
      (fun r q => r.pattern &&& (r.mask &&& q.mask) ≠ q.pattern &&& (r.mask &&& q.mask)) := by decide

/-- R75 and program A of L3. -/
theorem test_text :
    parseLine "W FF47, E4".toList = some ⟨0x1FF47#19, 0xE4⟩ ∧ parseLine "T 204 ; HBlank".toList = some ⟨0x20000#19, 204⟩ ∧
    parseLine "R FF41 -> 46".toList = some ⟨0x0FF41#19, 0⟩ ∧ parseLine "NOP".toList = some ⟨0x20000#19, 0⟩ ∧
    parseLine "DMA 1".toList = some ⟨0x50000#19, 1⟩ ∧ parseLine "DMA 2".toList = none ∧
    parseLine "R FF4".toList = none := by decide

/-! ### Bus operations (L2-B) -/

/-- B1: a VRAM read in Search, in Transfer, and in Transfer with DMA. -/
theorem test_readVram :
    vramReadValue monoConfig 0x8000#16 { inMode .search 0 1#8 with vram0 := [(0, 0x77#8)] } = 0x77#8 ∧
    vramReadValue monoConfig 0x8000#16 { inMode .transfer 0 1#8 with vram0 := [(0, 0x77#8)] } = 0x00#8 ∧
    vramReadValue monoConfig 0x8000#16 { inMode .transfer 0 1#8 with vram0 := [(0, 0x77#8)], dmaActive := true } = 0x77#8 := by
  decide

/-- B3: the bank a write goes to in both color modes; B1: a write in Transfer is dropped, with DMA too. -/
theorem test_writeVram :
    (vramWrite testConfig 0x8000#16 0xAA#8 { State.reset with vbk := 1#1 }).vram1 = [(0, 0xAA#8)] ∧
    (vramWrite testConfig 0x8000#16 0xAA#8 { State.reset with vbk := 1#1 }).vram0 = [] ∧
    (vramWrite monoConfig 0x9FFF#16 0xAA#8 { State.reset with vbk := 1#1 }).vram0 = [(0x1FFF, 0xAA#8)] ∧
    (vramWrite monoConfig 0x8000#16 0x99#8 { inMode .transfer 0 1#8 with dmaActive := true }).vram0 = [] := by decide

/-- B1: OAM reads in Search, in HBlank, and in Search with DMA. -/
theorem test_readOam :
    returned (.readOam 0xFE00#16) { inMode .search 0 1#8 with oam := [(0, 0x66#8)] } = some 0x00#8 ∧
    returned (.readOam 0xFE00#16) { inMode .hblank 0 1#8 with oam := [(0, 0x66#8)] } = some 0x66#8 ∧
    returned (.readOam 0xFE00#16) { inMode .search 0 1#8 with oam := [(0, 0x66#8)], dmaActive := true } = some 0x66#8 := by
  decide

/-- R129: `W FE10, 42` in HBlank; B1: dropped in Search. -/
theorem test_writeOam :
    (ran (exec (.writeOam 0xFE10#16 0x42#8) (inMode .hblank 0 1#8))).map (·.oam) = some [(0x10, 0x42#8)] ∧
    (ran (exec (.writeOam 0xFE00#16 0x11#8) (inMode .search 0 1#8))).map (·.oam) = some [] := by decide

/-- B4: unmapped accesses record the fault, and return no byte. -/
theorem test_readUnmapped :
    (ran (exec (.readUnmapped 0xFEA0#16) State.reset)).map (fun s => (s.fault, s.readByte)) =
      some (some (.busFault .read 0xFEA0#16), none) := by decide

theorem test_writeUnmapped :
    (ran (exec (.writeUnmapped 0xFF6C#16 0x01#8) State.reset)).map (·.fault) = some (some (.busFault .write 0xFF6C#16)) := by
  decide

/-- B4: after the fault no operation takes a step. -/
theorem test_after_fault :
    faulted (exec .readLcdc { State.reset with fault := some (.busFault .read 0xFEA0#16) }) =
      some (.busFault .read 0xFEA0#16) ∧
    faulted (step { State.reset with fault := some (.busFault .read 0xFEA0#16), requests := [⟨0x0FF40#19, 0⟩] }) =
      some (.busFault .read 0xFEA0#16) := by decide

/-! ### Registers (L2-B2) -/

theorem test_readLcdc : returned .readLcdc enabled = some 0x91#8 := by decide

/-- B2: `W FF40, 11` in Transfer at line 57 resets the display but not the latches; the framebuffer is filled. -/
theorem test_writeLcdc :
    (ran (exec (.writeLcdc 0x11#8) { inMode .transfer 57 57#8 with borrowed := 3, statIrq := true, cursor := 9 })).map
        (fun s => ((s.lcdc, s.ly, s.mode), (s.modeClock, s.borrowed, s.statIrq, s.cursor))) =
      some ((0x11#8, 0#8, .hblank), (0, 0, true, 9)) ∧
    (ran (exec (.writeLcdc 0x01#8) { State.reset with ly := 9#8 })).map (fun s => (s.lcdc, s.ly)) = some (0x01#8, 9#8) := by
  decide

/-- R132: in Transfer with the coincidence enable, `47` with U = 0, `C7` with U = 1. -/
theorem test_readStat :
    statByte monoConfig { inMode .transfer 0 7#8 with statSel := 0x40#8, lyc := 7#8 } = 0x47#8 ∧
    statByte testConfig { inMode .transfer 0 7#8 with statSel := 0x40#8, lyc := 7#8 } = 0xC7#8 := by decide

/-- R133: `W FF41, FF` stores the enables only, and raises nothing. -/
theorem test_writeStat :
    (ran (exec (.writeStat 0xFF#8) State.reset)).map (fun s => (s.statSel, s.statIrq)) = some (0x78#8, false) := by decide

theorem test_readScy : returned .readScy { State.reset with scy := 0x10#8 } = some 0x10#8 := by decide
theorem test_writeScy : (ran (exec (.writeScy 0x08#8) enabled)).map (fun s => (s.scy, s.scx)) = some (8#8, 0#8) := by decide
theorem test_readScx : returned .readScx { State.reset with scx := 0x03#8 } = some 0x03#8 := by decide

/-- R137: the line's discard count stays. -/
theorem test_writeScx :
    (ran (exec (.writeScx 0x03#8) { inMode .transfer 0 1#8 with discard := 5 })).map (fun s => (s.scx, s.discard)) =
      some (3#8, 5) := by decide

theorem test_readLy : returned .readLy (inMode .vblank 0 144#8) = some 0x90#8 := by decide
theorem test_writeLy : (ran (exec (.writeLy 0x05#8) enabled)).map (·.ly) = some 0#8 := by decide
theorem test_readLyc : returned .readLyc { State.reset with lyc := 0x90#8 } = some 0x90#8 := by decide

/-- T12: a write of LYC runs no coincidence check, and the STAT flag follows at once. -/
theorem test_writeLyc :
    (ran (exec (.writeLyc 1#8) { inMode .transfer 16 1#8 with statSel := 0x40#8 })).map
        (fun s => (s.statIrq, statByte monoConfig s)) = some (false, 0x47#8) := by decide

theorem test_readDma : returned .readDma State.reset = some 0xFF#8 := by decide
theorem test_writeDma : ran (exec (.writeDma 0xC0#8) State.reset) = some State.reset := by decide
theorem test_readBgp : returned .readBgp { State.reset with bgp := 0xE4#8 } = some 0xE4#8 := by decide
theorem test_writeBgp : (ran (exec (.writeBgp 0x1B#8) enabled)).map (·.bgp) = some 0x1B#8 := by decide
theorem test_readObp0 : returned .readObp0 { State.reset with obp0 := 0xD2#8 } = some 0xD2#8 := by decide
theorem test_writeObp0 :
    (ran (exec (.writeObp0 0xD2#8) State.reset)).map (fun s => (s.obp0, s.obp1)) = some (0xD2#8, 0#8) := by decide
theorem test_readObp1 : returned .readObp1 { State.reset with obp1 := 0x21#8 } = some 0x21#8 := by decide
theorem test_writeObp1 :
    (ran (exec (.writeObp1 0x21#8) State.reset)).map (fun s => (s.obp0, s.obp1)) = some (0#8, 0x21#8) := by decide
theorem test_readWy : returned .readWy { State.reset with wy := 0x40#8 } = some 0x40#8 := by decide
theorem test_writeWy :
    (ran (exec (.writeWy 0x40#8) State.reset)).map (fun s => (s.wy, s.wx)) = some (0x40#8, 0#8) := by decide
theorem test_readWx : returned .readWx { State.reset with wx := 0x07#8 } = some 0x07#8 := by decide
theorem test_writeWx :
    (ran (exec (.writeWx 0x07#8) State.reset)).map (fun s => (s.wy, s.wx)) = some (0#8, 0x07#8) := by decide

/-- R154: with U = 1 and bank 1, `FF`; with U = 0, `01`. -/
theorem test_readVbk :
    vbkByte testConfig { State.reset with vbk := 1#1 } = 0xFF#8 ∧ vbkByte monoConfig { State.reset with vbk := 1#1 } = 0x01#8 := by
  decide

theorem test_writeVbk :
    (ran (exec (.writeVbk 0xFE#8) { State.reset with vbk := 1#1 })).map (·.vbk) = some 0#1 ∧
    (ran (exec (.writeVbk 0xFF#8) State.reset)).map (·.vbk) = some 1#1 := by decide

/-! ### Palette ports (L2-B2, program C) -/

/-- B2: `W FF68, C3` reads back as `83 + 40·U`. -/
theorem test_readBcps :
    indexByte monoConfig 1#1 3#6 = 0x83#8 ∧ indexByte testConfig 1#1 3#6 = 0xC3#8 ∧ indexByte monoConfig 0#1 63#6 = 0x3F#8 := by
  decide

theorem test_writeBcps :
    (ran (exec (.writeBcps 0xC3#8) State.reset)).map (fun s => (s.bcpsIdx, s.bcpsAi)) = some (3#6, 1#1) := by decide

/-- B2: without auto-increment the index stays; R158: 63 wraps to 0. -/
theorem test_readBcpd :
    (ran (exec .readBcpd { State.reset with bcpsIdx := 2#6, bgpal := [(2, 0x1F#8)] })).map (fun s => (s.readByte, s.bcpsIdx)) =
      some (some 0x1F#8, 2#6) ∧
    (ran (exec .readBcpd { State.reset with bcpsIdx := 63#6, bcpsAi := 1#1 })).map (·.bcpsIdx) = some 0#6 := by decide

/-- B2: `bgpal[63] = 12`, and the index wraps. -/
theorem test_writeBcpd :
    (ran (exec (.writeBcpd 0x12#8) { State.reset with bcpsIdx := 63#6, bcpsAi := 1#1 })).map (fun s => (s.bgpal, s.bcpsIdx)) =
      some ([(63, 0x12#8)], 0#6) := by decide

theorem test_readOcps : indexByte monoConfig 0#1 0x3F#6 = 0x3F#8 ∧ indexByte monoConfig 1#1 6#6 = 0x86#8 := by decide

theorem test_writeOcps :
    (ran (exec (.writeOcps 0x80#8) { State.reset with ocpsIdx := 9#6 })).map (fun s => (s.ocpsIdx, s.ocpsAi)) =
      some (0#6, 1#1) := by decide

theorem test_readOcpd :
    (ran (exec .readOcpd { State.reset with ocpsIdx := 63#6, ocpsAi := 1#1, objpal := [(63, 0x7F#8)] })).map
      (fun s => (s.readByte, s.ocpsIdx)) = some (some 0x7F#8, 0#6) := by decide

/-- B2: rejected in Transfer, and the index still advances. -/
theorem test_writeOcpd :
    (ran (exec (.writeOcpd 0x12#8) { inMode .transfer 0 1#8 with ocpsIdx := 5#6, ocpsAi := 1#1 })).map
      (fun s => (s.objpal, s.ocpsIdx)) = some ([], 6#6) := by decide

/-! ### Host operations (L2-H) -/

theorem test_ackVblank :
    (ran (exec .ackVblank { State.reset with vblankIrq := true, statIrq := true })).map (fun s => (s.vblankIrq, s.statIrq)) =
      some (false, true) := by decide

theorem test_ackStat :
    (ran (exec .ackStat { State.reset with vblankIrq := true, statIrq := true, statSel := 0x40#8 })).map
      (fun s => (s.vblankIrq, s.statIrq, s.statSel)) = some (true, false, 0x40#8) := by decide

theorem test_setDma :
    (ran (exec (.setDma true) State.reset)).map (·.dmaActive) = some true ∧
    (ran (exec (.setDma false) { State.reset with dmaActive := true })).map (·.dmaActive) = some false := by decide

/-! ### TICK (L2-T, L2-P, program E) -/

/-- T3b, T7 and T8: the last cycle of an HBlank, of line 143's HBlank, and of the tenth slot. -/
theorem test_tick_boundaries :
    (ran (exec (.tick 1) (inMode .hblank 203 0#8))).map (fun s => (s.mode, s.modeClock, s.ly)) = some (.search, 0, 1#8) ∧
    (ran (exec (.tick 1) (inMode .hblank 203 143#8))).map (fun s => (s.mode, s.ly, s.vblankIrq)) =
      some (.vblank, 144#8, true) ∧
    (ran (exec (.tick 1) { inMode .vblank 455 0#8 with statSel := 0x40#8 })).map (fun s => (s.mode, s.ly, s.statIrq)) =
      some (.search, 0#8, false) ∧
    (ran (exec (.tick 1) { inMode .vblank 455 152#8 with statSel := 0x40#8 })).map (fun s => (s.mode, s.ly, s.statIrq)) =
      some (.vblank, 0#8, true) := by decide

/-- P1 rows 15 and 16, program E, and R88: one cycle of Transfer, with a commit, a pop, and a fetch fault. -/
theorem test_tick_transfer :
    (ran (exec (.tick 1) { fetching (.push .commit) with modeClock := 15, fifo := List.replicate 8 0#2 })).map
        (fun s => (s.fstate, s.fifo.length, s.cursor, s.modeClock)) = some (.idle .tile, 15, 1, 16) ∧
    (ran (exec (.tick 1) { fetching .readLow with lcdc := 0x81#8, tileIdx := 0x80#8 })).map
        (fun s => (s.fault, s.mode, s.modeClock, s.fstate)) =
      some (some (.fetchFault 0x7802), .transfer, 3, .readLow) := by decide

/-! ### The pipeline and the color resolver (L1, L2-P, L2-C) -/

/-- P5 and L1 rows 6 and 7. -/
theorem test_addresses :
    tileAddr { State.reset with tileIdx := 0xFF#8 } = 0x7FF0 ∧ tileAddr { State.reset with tileIdx := 0x80#8 } = 0x7800 ∧
    tileAddr { State.reset with tileIdx := 0x7F#8 } = 0x87F0 ∧ tileAddr { enabled with tileIdx := 5#8 } = 0x8050 ∧
    tileAddr { enabled with tileIdx := 0xFF#8 } = 0x8FF0 ∧
    mapAddr { State.reset with ly := 7#8, scy := 0x0A#8 } = 0x9840 ∧
    mapAddr { State.reset with ly := 143#8, scy := 0xFF#8, scx := 0xFF#8, fcol := 1#5, lcdc := 0x08#8 } = 0x9E20 ∧
    rowOff { State.reset with ly := 143#8, scy := 0xFF#8 } = 12 := by decide

/-- P6. -/
theorem test_tilePixels :
    tilePixels 0x0F#8 0x33#8 = [0#2, 0#2, 2#2, 2#2, 1#2, 1#2, 3#2, 3#2] ∧
    tilePixels 0xA5#8 0xFF#8 = [3#2, 2#2, 3#2, 2#2, 2#2, 3#2, 2#2, 3#2] := by decide

/-- C1 with the palette 0xD2: shades 2, 0, 1, 3; and the emitted bytes at pixel (2, 1) (R54, R114). -/
theorem test_monochrome :
    (List.range 4).map (fun v => shadeOf 0xD2#8 (BitVec.ofNat 2 v)) = [2#2, 0#2, 1#2, 3#2] ∧
    (emitPop testConfig { inMode .transfer 17 1#8 with bgp := 0xE4#8, fifo := [3#2, 0#2], cursor := 2 }).fb =
      [(648, 3#8), (649, 0x11#8), (650, 0x22#8), (651, 0x33#8)] := by decide

/-- C2, C3 and C4. -/
theorem test_enhanced :
    (expand5 4#5 = 33#8 ∧ expand5 7#5 = 57#8 ∧ expand5 24#5 = 198#8) ∧
    enhResolve [(0, 0xE0#8), (1, 0x03#8)] 0 0 = ⟨0#8, 255#8, 0#8, 255#8⟩ ∧
    enhResolve [(0, 0xFF#8), (1, 0xFF#8)] 0 0 = ⟨255#8, 255#8, 255#8, 255#8⟩ ∧
    enhResolve [(10, 0x1F#8)] 9 5 = ⟨255#8, 0#8, 0#8, 255#8⟩ := by decide

/-! ### Steps -/

/-- A step takes the oldest request only. -/
theorem test_step :
    (ran (step { State.reset with requests := [⟨0x1FF42#19, 0x10⟩, ⟨0x1FF43#19, 0x03⟩] })).map
      (fun s => (s.scy, s.scx, s.requests)) = some (0x10#8, 0#8, [⟨0x1FF43#19, 0x03⟩]) ∧
    ran (step State.reset) = some State.reset ∧
    refusal (step { State.reset with requests := [⟨0x60000#19, 0⟩] }) = some (.malformedRequest (.reservedOp 6#3)) := by
  decide

/-- A table word placed as the next request runs first. -/
theorem test_table_word :
    decodeTableWord 24 0x0FF40 = some .readLcdc ∧ decodeTableWord 24 0x60000 = none ∧
    (ran (step (State.reset.withFetchWord 24 0x0FF46))).map (·.readByte) = some (some 0xFF#8) := by decide

/-! ### Witnesses: for each obligation with hypotheses, states and operands that meet them -/

/-- A line in Transfer at the clock and FIFO of its timeline, about to commit its second tile. -/
def committing : State :=
  { fetching (.push .commit) with modeClock := 15, fifo := List.replicate 8 1#2, fcol := 2#5, scx := 3#8, discard := 3 }

/-- The same with a pending request for one cycle. -/
def tickPending : State := { committing with requests := [⟨0x20000#19, 1⟩] }

/-- The cycle before the last of a Transfer: the next emission makes the cursor 160. -/
def lastPixel : State :=
  { fetching .readHigh with modeClock := 174, fifo := List.replicate 9 1#2, fcol := 21#5, cursor := 159 }

/-- An HBlank, its last cycle pending, with seven borrowed cycles. -/
def lastHBlank : State := { inMode .hblank 196 143#8 with borrowed := 7, lyc := 144#8, statSel := 0x78#8 }

theorem timing_of_transfer {s : State} (he : s.displayEnabled = true) (hm : s.mode = .transfer) (hl : s.ly ≤ 143#8)
    (hc : s.cursor < 160) (hf : s.fifo.length ≤ 16) (hd : s.discard + s.borrowed ≤ 7) : s.TimingInv := by
  constructor <;> simp [he, hm, hl, hc, hf, hd, State.clockInRange]

theorem committing_timing : committing.TimingInv :=
  timing_of_transfer (by decide) (by decide) (by decide) (by decide) (by decide) (by decide)

theorem witness_DecodeEncodeRoundTrip :
    (Instr.writeVram 0x9FFF#16 0xFF#8).wellFormed = true ∧ (Instr.readOam 0xFE00#16).wellFormed = true ∧
    (Instr.writeUnmapped 0xFFFF#16 0#8).wellFormed = true ∧ (Instr.tick 70656).wellFormed = true := by decide

theorem witness_EncodeDecodeRoundTrip :
    decode ⟨0x1FEA0#19, 255⟩ = .ok (.writeUnmapped 0xFEA0#16 0xFF#8) ∧ decode ⟨0x0FF40#19, 9⟩ = .ok .readLcdc := by decide

theorem witness_DecoderFollowsOpcodeMap : decode ⟨0x1FE9F#19, 255⟩ = .ok (.writeOam 0xFE9F#16 0xFF#8) := by decide

/-- One request for each way to be malformed, an operand at the bound of each type, and a step that takes a refused one. -/
theorem witness_MalformedRequestsAreRefused :
    (¬ (opField 0x60000#19).toNat ≤ 5 ∧ (1 < (opField 0x20001#19).toNat ∧ addrField 0x20001#19 ≠ 0#16) ∧
      (opField 0x1FF40#19).toNat = 1 ∧ (opField 0x50000#19).toNat = 5) ∧
    (decode ⟨0x1FF40#19, 255⟩ = .ok (.writeLcdc 0xFF#8) ∧ decode ⟨0x50000#19, 1⟩ = .ok (.setDma true)) ∧
    (decode ⟨0x60000#19, 0⟩ = .error (.reservedOp 6#3) ∧
      decode ⟨0x20001#19, 5⟩ = .error (.nonzeroAddress 2#3 0x0001#16) ∧
      decode ⟨0x50000#19, 2⟩ = .error (.operandOutOfRange 5#3 2)) ∧
    ∃ (s : State) (r : Request) (rest : List Request) (e : DecodeError), s.running ∧ s.requests = r :: rest ∧
      decode r = .error e :=
  ⟨by decide, by decide, by decide, { enabled with requests := [⟨0x1FF40#19, 256⟩, ⟨0x20000#19, 1⟩] }, ⟨0x1FF40#19, 256⟩,
    [⟨0x20000#19, 1⟩], .operandOutOfRange 1#3 256, by decide, by decide, by decide⟩

theorem witness_TextSpellsTheRequest : (Instr.writeUnmapped 0x0000#16 0x0A#8).wellFormed = true := by decide

theorem witness_StepRunsTheDecodedRequest :
    (tickPending.running ∧ tickPending.requests = ⟨0x20000#19, 1⟩ :: [] ∧ decode ⟨0x20000#19, 1⟩ = .ok (.tick 1)) ∧
    (enabled.running ∧ enabled.requests = []) := by decide

theorem witness_FaultStopsEveryOperation :
    (State.raise enabled (.fetchFault 0x7FFF)).fault = some (.fetchFault 0x7FFF) := by decide

/-- A step that changes the pipeline, the clock and the discard count. -/
theorem witness_StepKeepsTimingInvariants : ∃ t, tickPending.TimingInv ∧ step tickPending = .next t ∧ t.discard = 2 :=
  ⟨_, timing_of_transfer (by decide) (by decide) (by decide) (by decide) (by decide) (by decide), rfl, by decide⟩

theorem reset_memories : State.reset.MemoriesCanonical := by constructor <;> decide

/-- A step that stores a byte. -/
theorem witness_StepKeepsMemoriesCanonical :
    ∃ s t, s.TimingInv ∧ s.MemoriesCanonical ∧ step s = .next t ∧ t.oam = [(0x9F, 0x42#8)] :=
  ⟨{ State.reset with requests := [⟨0x1FE9F#19, 0x42⟩] }, _, by constructor <;> decide, by constructor <;> decide, rfl,
    by decide⟩

theorem committing_in_step : committing.PipelineInStep := by constructor <;> decide

theorem witness_StepKeepsPipelineInStep :
    ∃ t, tickPending.TimingInv ∧ tickPending.PipelineInStep ∧ step tickPending = .next t ∧ t.fifo.length = 15 :=
  ⟨_, timing_of_transfer (by decide) (by decide) (by decide) (by decide) (by decide) (by decide),
    by constructor <;> decide, rfl, by decide⟩

theorem witness_StepKeepsReservedStatBitsClear :
    ∃ s t : State, s.statSelReserved ∧ step s = .next t ∧ t.statSel = 0x78#8 :=
  ⟨{ State.reset with requests := [⟨0x1FF41#19, 0xFF⟩] }, _, by decide, rfl, by decide⟩

/-- Both writers: the last cycle of an HBlank, and the display-off reset. -/
theorem witness_ModeChangesOnlyByTickOrDisplayOff :
    (∃ t, exec (.tick 1) lastHBlank = .next t ∧
      (t.mode, t.modeClock, t.ly) ≠ (lastHBlank.mode, lastHBlank.modeClock, lastHBlank.ly)) ∧
    ∃ t, exec (.writeLcdc 0x11#8) committing = .next t ∧
      (t.mode, t.modeClock, t.ly) ≠ (committing.mode, committing.modeClock, committing.ly) :=
  ⟨⟨_, rfl, by decide⟩, ⟨_, exec_running (by decide) _, by decide⟩⟩

/-- A cycle that sets both latches, and the two operations that clear one. -/
theorem witness_InterruptLatchWriters :
    (∃ t, exec (.tick 1) lastHBlank = .next t ∧ t.vblankIrq = true ∧ t.statIrq = true) ∧
    (∃ t, exec .ackVblank { enabled with vblankIrq := true, statIrq := true } = .next t ∧ t.vblankIrq = false) ∧
    ∃ t, exec .ackStat { enabled with vblankIrq := true, statIrq := true } = .next t ∧ t.statIrq = false :=
  ⟨⟨_, rfl, by decide, by decide⟩, ⟨_, rfl, by decide⟩, ⟨_, rfl, by decide⟩⟩

/-- One writer of each surface: VRAM, OAM, the palettes, and the framebuffer by a cycle that emits. -/
theorem witness_MemorySurfaceWriters :
    (vramWrite testConfig 0x8000#16 1#8 { enabled with vbk := 1#1 }).vram1 ≠ [] ∧
    (vramWrite monoConfig 0x8000#16 1#8 enabled).vram0 ≠ [] ∧
    (∃ t, exec (.writeOam 0xFE00#16 1#8) enabled = .next t ∧ t.oam ≠ enabled.oam) ∧
    (∃ t, exec (.writeBcpd 1#8) enabled = .next t ∧ t.bgpal ≠ enabled.bgpal) ∧
    (∃ t, exec (.writeOcpd 1#8) enabled = .next t ∧ t.objpal ≠ enabled.objpal) ∧
    (tick testConfig 1 lastPixel).fb ≠ lastPixel.fb :=
  ⟨by decide, by decide, ⟨_, rfl, by decide⟩, ⟨_, rfl, by decide⟩, ⟨_, rfl, by decide⟩, by decide⟩

theorem witness_TickFrame : ∃ t, exec (.tick 1) lastPixel = .next t ∧ t.mode = .hblank := ⟨_, rfl, by decide⟩

/-- A plain read, a read that moves an index, and a read that faults. -/
theorem witness_ReadsHaveNoOtherSideEffect :
    (∃ t, Instr.readLy.mnemonic = .read (.reg .ly) ∧ exec .readLy lastHBlank = .next t) ∧
    (∃ t, Instr.readBcpd.mnemonic = .read (.reg .bcpd) ∧ exec .readBcpd { enabled with bcpsAi := 1#1 } = .next t ∧
      t.bcpsIdx = 1#6) ∧
    ∃ t, (Instr.readUnmapped 0xA000#16).mnemonic = .read .unmapped ∧ exec (.readUnmapped 0xA000#16) enabled = .next t :=
  ⟨⟨_, by decide, rfl⟩, ⟨_, by decide, rfl, by decide⟩, ⟨_, by decide, rfl⟩⟩

theorem witness_TickWithoutEffect : State.reset.running ∧ bit State.reset.lcdc 7 = false ∧ enabled.running := by decide

/-- At the last clock before the transition and at the first. -/
theorem witness_TickInSearch :
    ((inMode .search 79 143#8).running ∧ (inMode .search 79 143#8).displayEnabled = true ∧
      (inMode .search 79 143#8).mode = .search ∧ (inMode .search 79 143#8).modeClock < 80) ∧
    ((inMode .search 0 0#8).modeClock + 79 < 80) := by decide

/-- Line 143 with seven borrowed cycles at the last clock, and line 142 at clock 0. -/
theorem witness_TickInHBlank :
    (lastHBlank.running ∧ lastHBlank.displayEnabled = true ∧ lastHBlank.mode = .hblank ∧ lastHBlank.ly ≤ 143#8 ∧
      lastHBlank.modeClock < 204 - lastHBlank.borrowed) ∧
    ((inMode .hblank 0 142#8).ly ≤ 143#8 ∧ (inMode .hblank 0 142#8).modeClock + 203 < 204 - 0) := by decide

/-- Each clause's slot, at its bounds. -/
theorem witness_TickInVBlank :
    ((inMode .vblank 455 0#8).running ∧ (inMode .vblank 455 0#8).displayEnabled = true ∧
      (inMode .vblank 455 0#8).mode = .vblank ∧ (inMode .vblank 455 0#8).modeClock < 456 ∧
      (inMode .vblank 455 0#8).ly = 0#8) ∧
    ((inMode .vblank 0 152#8).ly = 152#8 ∧ (inMode .vblank 0 152#8).modeClock + 455 < 456) ∧
    (144#8 ≤ (inMode .vblank 0 144#8).ly ∧ (inMode .vblank 0 151#8).ly < 152#8) := by decide

/-- Each of the three clauses. -/
theorem witness_TickInTransfer :
    (lastPixel.running ∧ lastPixel.displayEnabled = true ∧ lastPixel.mode = .transfer) ∧
    (fetcherStep lastPixel).fault = none ∧ (fifoStep testConfig (fetcherStep lastPixel)).cursor = 160 ∧
    (fetcherStep committing).fault = none ∧ (fifoStep testConfig (fetcherStep committing)).cursor ≠ 160 ∧
    (fetcherStep { fetching .readLow with lcdc := 0x81#8, tileIdx := 0xFF#8 }).fault ≠ none := by decide

theorem witness_TicksCompose :
    ∃ t, committing.TimingInv ∧ exec (.tick 1) committing = .next t ∧ t.fault = none ∧ t.modeClock = 16 :=
  ⟨_, committing_timing, rfl, by decide, by decide⟩

/-- Both ends of the line with the longest Transfer. -/
theorem witness_TransferTimeline :
    let s := { inMode .search 79 143#8 with scx := 7#8 }
    s.running ∧ s.displayEnabled = true ∧ s.ly ≤ 143#8 ∧ 0 ≤ 175 + s.scx.toNat % 8 ∧ 182 ≤ 175 + s.scx.toNat % 8 ∧
      (enterTransfer s).fetchSafe :=
  ⟨by decide, by decide, by decide, by decide, by decide, .inl (by decide)⟩

theorem witness_VisibleLineLength :
    let s := { inMode .search 0 143#8 with scx := 7#8 }
    s.running ∧ s.TimingInv ∧ s.displayEnabled = true ∧ s.mode = .search ∧ s.modeClock = 0 ∧ s.fetchSafe :=
  ⟨by decide, by constructor <;> decide, by decide, by decide, by decide, .inl (by decide)⟩

theorem witness_FrameLength :
    let s := inMode .search 0 0#8
    s.running ∧ s.TimingInv ∧ s.displayEnabled = true ∧ s.mode = .search ∧ s.modeClock = 0 ∧ s.ly = 0#8 ∧ s.fetchSafe :=
  ⟨by decide, by constructor <;> decide, by decide, by decide, by decide, by decide, .inl (by decide)⟩

theorem witness_FirstFrameAfterEnable :
    enabled.running ∧ enabled.TimingInv ∧ enabled.displayEnabled = true ∧ enabled.mode = .hblank ∧ enabled.modeClock = 0 ∧
      enabled.ly = 0#8 ∧ enabled.borrowed = 0 ∧ enabled.fetchSafe :=
  ⟨by decide, by constructor <;> decide, by decide, by decide, by decide, by decide, by decide, .inl (by decide)⟩

/-- A cycle with two of the four events, and the set latch of the last clause. -/
theorem witness_InterruptRequestSources :
    (lastHBlank.running ∧ lastHBlank.TimingInv ∧ lastHBlank.displayEnabled = true) ∧
    ∃ t, exec (.tick 1) lastHBlank = .next t ∧ lastHBlank.statIrq = false ∧ t.statIrq = true ∧ t.mode = .vblank :=
  ⟨⟨by decide, by constructor <;> decide, by decide⟩, _, rfl, by decide, by decide, by decide⟩

theorem witness_LineCounterSequence :
    let s := inMode .vblank 455 152#8
    s.running ∧ s.TimingInv := ⟨by decide, by constructor <;> decide⟩

/-- Each fetcher state, the plane addresses on both sides of 0x8000, and the commit at 8 and at 9 entries. -/
theorem witness_FetcherSteps :
    (State.reset.fstate = .idle .tile ∧ (fetching .readTile).fstate = .readTile ∧ (fetching .readLow).fstate = .readLow) ∧
    0x8000 ≤ lowAddr { fetching .readLow with ly := 0#8, tileIdx := 0#8 } ∧
    lowAddr { fetching .readLow with lcdc := 0x81#8, ly := 7#8, tileIdx := 0xFF#8 } = 0x7FFE ∧
    0x8000 ≤ highAddr { fetching .readHigh with ly := 0#8 } ∧
    highAddr { fetching .readHigh with lcdc := 0x81#8, ly := 7#8, tileIdx := 0xFF#8 } = 0x7FFF ∧
    (fetching (.push .advance)).fstate = .push .advance ∧
    (committing.fstate = .push .commit ∧ committing.fifo.length ≤ 8) ∧
    8 < ({ committing with fifo := List.replicate 9 0#2 } : State).fifo.length := by decide

/-- A FIFO of 8, and of 9 with and without a discard left. -/
theorem witness_FifoSteps :
    committing.fifo.length ≤ 8 ∧
    (8 < lastPixel.fifo.length ∧ lastPixel.fifo = 1#2 :: List.replicate 8 1#2 ∧ lastPixel.discard = 0) ∧
    0 < ({ lastPixel with discard := 1 } : State).discard := by decide

theorem witness_TileDataAddress :
    bit enabled.lcdc 4 = true ∧ bit State.reset.lcdc 4 = false ∧
    ({ State.reset with tileIdx := 0x7F#8 } : State).tileIdx.toNat < 0x80 ∧
    0x80 ≤ ({ State.reset with tileIdx := 0x80#8 } : State).tileIdx.toNat := by decide

theorem witness_EmittedPixel :
    lastPixel.running ∧ lastPixel.MemoriesCanonical ∧ lastPixel.displayEnabled = true ∧ lastPixel.mode = .transfer ∧
      lastPixel.ly ≤ 143#8 ∧ lastPixel.cursor < 160 ∧ (fetcherStep lastPixel).fault = none ∧
      (fetcherStep lastPixel).fifo = 1#2 :: List.replicate 8 1#2 ∧ 8 ≤ (List.replicate 8 1#2).length ∧
      lastPixel.discard = 0 :=
  ⟨by decide, by constructor <;> decide, by decide, by decide, by decide, by decide, by decide, by decide, by decide,
    by decide⟩

/-- A plane read that faults, and one that does not. -/
theorem witness_FetchFaultCondition :
    let s := { fetching .readHigh with lcdc := 0x81#8, tileIdx := 0x80#8 }
    (s.running ∧ s.displayEnabled = true ∧ s.mode = .transfer ∧ s.fstate = .readHigh ∧ bit s.lcdc 4 = false ∧
      0x80#8 ≤ s.tileIdx) ∧
    lastPixel.running ∧ lastPixel.displayEnabled = true ∧ lastPixel.mode = .transfer := by decide

/-- Each of the three ways: mode 1, the display disabled, and mode 0 with low tile numbers only. -/
theorem witness_FetchSafeTicksNeverFault :
    (committing.running ∧ committing.TimingInv ∧ committing.fetchSafe) ∧ State.reset.fetchSafe ∧
    State.fetchSafe { fetching .readLow with lcdc := 0x81#8, tileIdx := 0x7F#8 } :=
  ⟨⟨by decide, committing_timing, .inl (by decide)⟩, .inr (.inl (by decide)),
    .inr (.inr ⟨fun _ _ _ => show (0x00#8 : Byte) < 0x80#8 by decide, fun _ _ => by decide⟩)⟩

theorem witness_CommitNeverStalls :
    committing.TimingInv ∧ committing.PipelineInStep ∧ committing.mode = .transfer ∧ committing.fstate = .push .commit :=
  ⟨committing_timing, committing_in_step, by decide, by decide⟩

theorem witness_ChannelExpansion : (30#5 : BitVec 5) < 31#5 := by decide

/-- Each clause, at both bounds of the window. -/
theorem witness_VramAccess :
    (State.reset.running ∧ State.reset.MemoriesCanonical ∧ inVramWindow 0x8000#16 = true ∧ inVramWindow 0x9FFF#16 = true) ∧
    ((committing.mode = .transfer ∧ committing.dmaActive = false ∧ bit committing.lcdc 7 = true) ∧
      State.reset.mode ≠ .transfer ∧ ({ committing with dmaActive := true } : State).dmaActive = true) :=
  ⟨⟨by decide, reset_memories, by decide, by decide⟩, by decide⟩

/-- Each clause, at both bounds of the window: the two locked modes, the two others, DMA active in Search, and the display
disabled. -/
theorem witness_OamAccess :
    (State.reset.running ∧ State.reset.MemoriesCanonical ∧ inOamWindow 0xFE00#16 = true ∧ inOamWindow 0xFE9F#16 = true) ∧
    ((inMode .search 0 0#8).mode = .search ∧ (inMode .search 0 0#8).dmaActive = false ∧
      bit (inMode .search 0 0#8).lcdc 7 = true) ∧
    (committing.mode = .transfer ∧ committing.dmaActive = false ∧ bit committing.lcdc 7 = true) ∧
    (({ inMode .search 0 0#8 with dmaActive := true } : State).mode = .search ∧
      ({ inMode .search 0 0#8 with dmaActive := true } : State).dmaActive = true) ∧
    ((inMode .vblank 455 144#8).running ∧ (inMode .vblank 455 144#8).mode = .vblank) ∧
    (lastHBlank.mode = .hblank ∧ bit State.reset.lcdc 7 = false) :=
  ⟨⟨by decide, reset_memories, by decide, by decide⟩, by decide⟩

theorem witness_LcdcAccess :
    State.reset.running ∧ bit State.reset.lcdc 7 = false ∧ (committing.running ∧ bit committing.lcdc 7 = true ∧
      bit 0x11#8 7 = false) ∧ bit 0x91#8 7 = true := by decide

theorem witness_StatAccess : lastHBlank.running ∧ lastHBlank.statSelReserved := by decide

theorem witness_PlainRegisterReads : committing.running ∧ committing.TimingInv := ⟨by decide, committing_timing⟩
theorem witness_PlaceholderRegisterWrites : lastPixel.running := by decide
theorem witness_ScrollCompareAndPaletteWrites :
    committing.running ∧ committing.statSelReserved ∧ ({ committing with lyc := 1#8 } : State).ly = 1#8 := by decide
theorem witness_IgnoredWrites : lastHBlank.running := by decide
theorem witness_VbkAccess :
    lastHBlank.running ∧ testConfig.colorMode = .enhanced ∧ monoConfig.colorMode = .monochrome := by decide
theorem witness_PaletteIndexAccess : lastPixel.running := by decide

theorem witness_PaletteDataAccess :
    (State.reset.running ∧ State.reset.MemoriesCanonical) ∧ committing.mode = .transfer ∧ State.reset.mode ≠ .transfer :=
  ⟨⟨by decide, reset_memories⟩, by decide⟩

theorem witness_UnmappedAccessFaults :
    committing.running ∧ isUnmapped 0x7FFF#16 = true ∧ isUnmapped 0xA000#16 = true ∧ isUnmapped 0xFEA0#16 = true ∧
    isUnmapped 0xFF4C#16 = true ∧ isUnmapped 0xFF4E#16 = true ∧ isUnmapped 0xFF6C#16 = true := by decide

theorem witness_HostOperations : committing.running := by decide

theorem witness_TickIgnoresUnusedStorage : ∃ t, exec (.tick 1) lastPixel = .next t ∧ t.cursor = 160 := ⟨_, rfl, by decide⟩

theorem witness_TickIgnoresColorMode :
    testConfig.monoShade = monoConfig.monoShade ∧ testConfig.colorMode ≠ monoConfig.colorMode := ⟨rfl, by decide⟩

theorem witness_HiddenPipelineIsUnobservable :
    lastHBlank.mode ≠ .transfer ∧ lastHBlank.withPipelineOf committing ≠ lastHBlank := by decide

end Sys2Proof.Machine
end

section
/-!
Who writes the scheduler's state and the interrupt latches (10_state.md R16, R46). An operation other than TICK is split into
its cases once; TICK is an induction over the turns of the tick loop, packaged for every property of a state.
-/

namespace Sys2Proof.Machine

/-! ### Operations other than TICK -/

/-- A VRAM write changes at most the two banks (R127). -/
theorem vramWrite_frame (c : Config) (a : Addr) (d : Byte) (s : State) :
    vramWrite c a d s = { s with vram0 := (vramWrite c a d s).vram0, vram1 := (vramWrite c a d s).vram1 } := by
  unfold vramWrite
  split
  · rfl
  · unfold State.setVram
    split <;> rfl

/-- An OAM write changes at most OAM (R129). -/
theorem oamWrite_frame (a : Addr) (d : Byte) (s : State) : oamWrite a d s = { s with oam := (oamWrite a d s).oam } := by
  unfold oamWrite
  split <;> rfl

/-- A write of LCDC on the on→off edge of bit 7 resets the display, and any other stores the byte alone (R131). -/
theorem writeLcdc_cases (d : Byte) (s : State) :
    (bit s.lcdc 7 = true ∧ bit d 7 = false ∧ writeLcdc d s = displayOff { s with lcdc := d }) ∨
      (¬ (bit s.lcdc 7 = true ∧ bit d 7 = false) ∧ writeLcdc d s = { s with lcdc := d }) := by
  unfold writeLcdc State.displayEnabled
  by_cases h : bit s.lcdc 7 = true ∧ bit d 7 = false
  · exact .inl ⟨h.1, h.2, by simp [h]⟩
  · exact .inr ⟨h, if_neg (by simpa using h)⟩

/-- A write of LCDC leaves both latches, on the edge too (R131). -/
theorem writeLcdc_latches (d : Byte) (s : State) :
    (writeLcdc d s).vblankIrq = s.vblankIrq ∧ (writeLcdc d s).statIrq = s.statIrq := by
  rcases writeLcdc_cases d s with ⟨_, _, h⟩ | ⟨_, h⟩ <;> rw [h] <;> exact ⟨rfl, rfl⟩

/-- Beside TICK, WRITE_LCDC and the two ACK operations, no operation touches the scheduler's state or a latch. -/
theorem effect_scheduler_cases (i : Instr) (s : State) :
    (∃ n, i = .tick n) ∨ (∃ d, i = .writeLcdc d) ∨ i = .ackVblank ∨ i = .ackStat ∨
      ((effect i s).mode = s.mode ∧ (effect i s).modeClock = s.modeClock ∧ (effect i s).ly = s.ly ∧
        (effect i s).vblankIrq = s.vblankIrq ∧ (effect i s).statIrq = s.statIrq) := by
  cases i with
  | tick n => exact .inl ⟨n, rfl⟩
  | writeLcdc d => exact .inr (.inl ⟨d, rfl⟩)
  | ackVblank => exact .inr (.inr (.inl rfl))
  | ackStat => exact .inr (.inr (.inr (.inl rfl)))
  | writeVram a d =>
    rw [effect, vramWrite_frame]
    exact .inr (.inr (.inr (.inr ⟨rfl, rfl, rfl, rfl, rfl⟩)))
  | writeOam a d =>
    rw [effect, oamWrite_frame]
    exact .inr (.inr (.inr (.inr ⟨rfl, rfl, rfl, rfl, rfl⟩)))
  | _ => exact .inr (.inr (.inr (.inr ⟨rfl, rfl, rfl, rfl, rfl⟩)))

/-! ### TICK -/

/-- Each thing the scheduler does to a state (an advance of the clock, a pseudo-cycle, one of the four transitions) keeps `P`. -/
structure KeptByScheduler (c : Config) (P : State → Prop) : Prop where
  clock : ∀ (s : State) (k : Nat), P s → P { s with modeClock := k }
  pseudoCycle : ∀ s, P s → P (pseudoCycle c s)
  enterTransfer : ∀ s, P s → P (enterTransfer s)
  enterHBlank : ∀ s, P s → P (enterHBlank s)
  endHBlank : ∀ s, P s → P (endHBlank s)
  vblankSlotEnd : ∀ s, P s → P (vblankSlotEnd s)

section
variable {c : Config} {P : State → Prop} {s : State}

theorem KeptByScheduler.timedHandler (hk : KeptByScheduler c P) {tr : State → State} (htr : ∀ s, P s → P (tr s))
    (len b : Nat) (h : P s) : P (timedHandler len tr b s).2 := by
  unfold Machine.timedHandler
  simp only
  split
  · exact htr _ (hk.clock _ _ h)
  · exact hk.clock _ _ h

theorem KeptByScheduler.transferCycle (hk : KeptByScheduler c P) (h : P s) : P (transferCycle c s) := by
  have hp := hk.pseudoCycle s h
  rcases transferCycle_cases c s with ⟨_, ht⟩ | ⟨_, ht⟩
  · rw [ht]
    rcases closeTransferCycle_cases (Machine.pseudoCycle c s) with ⟨_, hc⟩ | ⟨_, hc⟩
    · rw [hc]
      exact hk.enterHBlank _ (hk.clock _ _ hp)
    · rw [hc]
      exact hk.clock _ _ hp
  · rwa [ht]

theorem KeptByScheduler.transferHandler (hk : KeptByScheduler c P) (b : Nat) (h : P s) : P (transferHandler c b s).2 := by
  induction b generalizing s with
  | zero => exact h
  | succ b ih =>
    rw [Machine.transferHandler]
    split
    · exact ih (hk.transferCycle h)
    · exact hk.transferCycle h

theorem KeptByScheduler.modeHandler (hk : KeptByScheduler c P) (b : Nat) (h : P s) : P (modeHandler c b s).2 := by
  cases hm : s.mode with
  | search => rw [modeHandler_search c b hm]; exact hk.timedHandler hk.enterTransfer _ b h
  | transfer => rw [modeHandler_transfer c b hm]; exact hk.transferHandler b h
  | hblank => rw [modeHandler_hblank c b hm]; exact hk.timedHandler hk.endHBlank _ b h
  | vblank => rw [modeHandler_vblank c b hm]; exact hk.timedHandler hk.vblankSlotEnd _ b h

theorem KeptByScheduler.tickLoop (hk : KeptByScheduler c P) (turns b : Nat) (h : P s) : P (tickLoop c turns b s) := by
  induction turns generalizing b s with
  | zero => exact h
  | succ turns ih =>
    rw [Machine.tickLoop]
    split
    · exact h
    · exact ih _ (hk.modeHandler b h)

/-- What the scheduler's steps keep, a TICK keeps, from every state and with every budget (R78). -/
theorem KeptByScheduler.tick (hk : KeptByScheduler c P) (n : Nat) (h : P s) : P (tick c n s) := by
  unfold Machine.tick
  split
  · exact hk.tickLoop _ n h
  · exact h

end

/-- The scheduler never clears the vertical-blank latch (R46). -/
theorem vblankIrq_keptByScheduler (c : Config) : KeptByScheduler c fun s => s.vblankIrq = true where
  clock _ _ h := h
  pseudoCycle s h := by rwa [pseudoCycle_frame]
  enterTransfer _ h := h
  enterHBlank s h := by simpa [enterHBlank] using h
  endHBlank s h := by
    rcases endHBlank_cases s with ⟨_, he⟩ | ⟨_, he⟩ <;> rw [he]
    · simp [enterVBlank]
    · simpa [enterSearch, startLine] using h
  vblankSlotEnd s h := by
    rcases vblankSlotEnd_cases s with ⟨_, he⟩ | ⟨_, _, he⟩ | ⟨_, _, he⟩ <;> rw [he] <;>
      simpa [enterSearch, startLine] using h

/-- The scheduler never clears the status latch: an event sets it or leaves it (R46, R92). -/
theorem statIrq_keptByScheduler (c : Config) : KeptByScheduler c fun s => s.statIrq = true where
  clock _ _ h := h
  pseudoCycle s h := by rwa [pseudoCycle_frame]
  enterTransfer _ h := h
  enterHBlank s h := by simp [enterHBlank, h]
  endHBlank s h := by
    rcases endHBlank_cases s with ⟨_, he⟩ | ⟨_, he⟩ <;> rw [he] <;> simp [enterVBlank, enterSearch, startLine, h]
  vblankSlotEnd s h := by
    rcases vblankSlotEnd_cases s with ⟨_, he⟩ | ⟨_, _, he⟩ | ⟨_, _, he⟩ <;> rw [he] <;> simp [enterSearch, startLine, h]

/-! ### The writers of each latch -/

/-- The vertical-blank latch is kept set by TICK, cleared by its ACK and left alone by every other operation. -/
theorem effect_vblankIrq_cases (i : Instr) (s : State) :
    (∃ n, i = .tick n ∧ (s.vblankIrq = true → (effect i s).vblankIrq = true)) ∨
      (i = .ackVblank ∧ (effect i s).vblankIrq = false) ∨ (effect i s).vblankIrq = s.vblankIrq := by
  rcases effect_scheduler_cases i s with ⟨n, rfl⟩ | ⟨d, rfl⟩ | rfl | rfl | ⟨_, _, _, hv, _⟩
  · exact .inl ⟨n, rfl, (vblankIrq_keptByScheduler Config.given).tick n⟩
  · exact .inr (.inr (writeLcdc_latches d s).1)
  · exact .inr (.inl ⟨rfl, rfl⟩)
  · exact .inr (.inr rfl)
  · exact .inr (.inr hv)

/-- The status latch is kept set by TICK, cleared by its ACK and left alone by every other operation. -/
theorem effect_statIrq_cases (i : Instr) (s : State) :
    (∃ n, i = .tick n ∧ (s.statIrq = true → (effect i s).statIrq = true)) ∨
      (i = .ackStat ∧ (effect i s).statIrq = false) ∨ (effect i s).statIrq = s.statIrq := by
  rcases effect_scheduler_cases i s with ⟨n, rfl⟩ | ⟨d, rfl⟩ | rfl | rfl | ⟨_, _, _, _, hs⟩
  · exact .inl ⟨n, rfl, (statIrq_keptByScheduler Config.given).tick n⟩
  · exact .inr (.inr (writeLcdc_latches d s).2)
  · exact .inr (.inr rfl)
  · exact .inr (.inl ⟨rfl, rfl⟩)
  · exact .inr (.inr hs)

/-- The writers of one latch, `b` before and `b'` after the operation, from what each operation does to it. -/
theorem latch_writers {i ack : Instr} {b b' : Bool}
    (h : (∃ n, i = .tick n ∧ (b = true → b' = true)) ∨ (i = ack ∧ b' = false) ∨ b' = b) :
    (b = false → b' = true → ∃ n, i = .tick n) ∧ (b = true → b' = false → i = ack) := by
  rcases h with ⟨n, hi, hset⟩ | ⟨hi, hclear⟩ | heq
  · exact ⟨fun _ _ => ⟨n, hi⟩, fun hb hb' => by simp [hset hb] at hb'⟩
  · exact ⟨fun _ hb' => by simp [hclear] at hb', fun _ _ => hi⟩
  · exact ⟨fun hb hb' => by simp [heq, hb] at hb', fun hb hb' => by simp [heq, hb] at hb'⟩

/-! ### The obligations -/

/-- Settles O15: beside TICK only a write of LCDC reaches the three fields, and off the edge of bit 7 it leaves them. -/
theorem modeChangesOnlyByTickOrDisplayOff : Obligations.ModeChangesOnlyByTickOrDisplayOff := by
  unfold Obligations.ModeChangesOnlyByTickOrDisplayOff
  intro i s t h hne
  obtain ⟨_, rfl⟩ := exec_next h
  rcases effect_scheduler_cases i s with htick | ⟨d, rfl⟩ | rfl | rfl | ⟨hm, hc, hl, _, _⟩
  · exact .inl htick
  · rcases writeLcdc_cases d s with ⟨hon, hoff, _⟩ | ⟨_, hw⟩
    · exact .inr ⟨d, rfl, hon, hoff⟩
    · exact absurd (by rw [effect, hw]) hne
  · exact absurd rfl hne
  · exact absurd rfl hne
  · exact absurd (by rw [hm, hc, hl]) hne

/-- Settles O16: the latches start at 0, and each has the writers `latch_writers` names. -/
theorem interruptLatchWriters : Obligations.InterruptLatchWriters := by
  unfold Obligations.InterruptLatchWriters
  refine ⟨rfl, rfl, fun i s t h => ?_⟩
  obtain ⟨_, rfl⟩ := exec_next h
  obtain ⟨hsetV, hclearV⟩ := latch_writers (effect_vblankIrq_cases i s)
  obtain ⟨hsetS, hclearS⟩ := latch_writers (effect_statIrq_cases i s)
  exact ⟨hsetV, hclearV, hsetS, hclearS⟩

end Sys2Proof.Machine
end

section
/-!
The enhanced color resolver in numbers (42_color_resolver.md R121 to R123): the two places where the model joins bit fields,
the palette word and the channel expansion, are sums, since the joined fields do not overlap.
-/

namespace Sys2Proof.Machine

/-- The channel expansion in numbers (R121): the copy of the two top bits lies below the shifted channel. -/
theorem expand5_toNat (c : BitVec 5) : (expand5 c).toNat = 8 * c.toNat + c.toNat / 4 := by
  have hlow : c.toNat / 2 ^ 2 < 2 ^ 3 := by omega
  calc (expand5 c).toNat = c.toNat <<< 3 ||| c.toNat / 2 ^ 2 := by
        have hbyte : c.toNat % 2 ^ 8 = c.toNat := by omega
        have hshift : c.toNat <<< 3 % 2 ^ 8 = c.toNat <<< 3 := by rw [Nat.shiftLeft_eq]; omega
        rw [expand5, BitVec.toNat_or, BitVec.toNat_shiftLeft, BitVec.toNat_ushiftRight, BitVec.toNat_setWidth, hbyte, hshift,
          Nat.shiftRight_eq_div_pow]
    _ = c.toNat <<< 3 + c.toNat / 2 ^ 2 := (Nat.shiftLeft_add_eq_or_of_lt hlow _).symm
    _ = 8 * c.toNat + c.toNat / 4 := by rw [Nat.shiftLeft_eq]; omega

/-- The palette word in numbers: the byte at the lower index is the low one (R53). -/
theorem paletteWord_toNat (mem : Memory) (p c : Nat) :
    (paletteWord mem p c).toNat = (mem.read (8 * p + 2 * c)).toNat + 256 * (mem.read (8 * p + 2 * c + 1)).toNat := by
  rw [paletteWord, BitVec.toNat_append, ← Nat.shiftLeft_add_eq_or_of_lt (BitVec.isLt _), Nat.shiftLeft_eq]
  omega

/-- Masking is idempotent: the resolver sees its arguments modulo 8 and 4 only (R123). -/
theorem enhResolve_mod (mem : Memory) (p c : Nat) : enhResolve mem (p % 8) (c % 4) = enhResolve mem p c := by
  rw [enhResolve, enhResolve, Nat.mod_mod, Nat.mod_mod]

/-- The expansion of a 5-bit field of a palette word, the channel at bit `k` (R122). -/
theorem expand5_field_toNat (w : BitVec 16) (k : Nat) :
    (expand5 (w.extractLsb' k 5)).toNat = 8 * (w.toNat / 2 ^ k % 32) + w.toNat / 2 ^ k % 32 / 4 := by
  rw [expand5_toNat, BitVec.extractLsb'_toNat, Nat.shiftRight_eq_div_pow]

/-- Settles O43: each channel is the expansion of its field of the palette word, at bits 0, 5 and 10. -/
theorem enhancedColor : Obligations.EnhancedColor := by
  unfold Obligations.EnhancedColor
  intro mem p c w color
  have hw : (paletteWord mem (p % 8) (c % 4)).toNat = w := paletteWord_toNat mem (p % 8) (c % 4)
  have hfield (k : Nat) : (expand5 ((paletteWord mem (p % 8) (c % 4)).extractLsb' k 5)).toNat =
      8 * (w / 2 ^ k % 32) + w / 2 ^ k % 32 / 4 := by rw [expand5_field_toNat, hw]
  have hred := hfield 0
  rw [pow_zero, Nat.div_one] at hred
  exact ⟨hred, hfield 5, hfield 10, rfl, enhResolve_mod mem p c⟩

end Sys2Proof.Machine
end

section
/-!
The decoder against the opcode map (30_encoding.md R71, R72). Each row that selects a word names the mnemonic the decoder
selects, but for the two UNMAPPED rows; those are reached only when no row of a window or a register selects the word, and
then the decoder too is left with the unmapped target.
-/

namespace Sys2Proof

/-! ### The decoder on each kind of word (R68, R71) -/

theorem select_read {w : ReqWord} (h : opField w = 0#3) : select w = .ok (.read (targetOf (addrField w))) := by
  simp [select, h]

theorem select_write {w : ReqWord} (h : opField w = 1#3) : select w = .ok (.write (targetOf (addrField w))) := by
  simp [select, h]

/-- The kinds of word the decoder accepts: a READ, a WRITE, or the one word of a non-bus operation (R68, R69). -/
theorem select_ok {w : ReqWord} {m : Mnemonic} (h : select w = .ok m) :
    (opField w = 0#3 ∧ m = .read (targetOf (addrField w))) ∨ (opField w = 1#3 ∧ m = .write (targetOf (addrField w))) ∨
      (m ∈ [.tick, .ackVblank, .ackStat, .setDma] ∧ w = m.op ++ 0#16) := by
  have hop (n : Nat) (hn : (opField w).toNat = n) : opField w = BitVec.ofNat 3 n := by
    rw [← hn, BitVec.ofNat_toNat, BitVec.setWidth_eq]
  have hnonBus (m' : Mnemonic) (hmem : m' ∈ [.tick, .ackVblank, .ackStat, .setDma]) (hw : opField w = m'.op)
      (hm : (if addrField w = 0#16 then .ok m' else .error (.nonzeroAddress (opField w) (addrField w))) =
        (.ok m : Except DecodeError Mnemonic)) : m ∈ [.tick, .ackVblank, .ackStat, .setDma] ∧ w = m.op ++ 0#16 := by
    split at hm
    · next ha =>
      cases hm
      exact ⟨hmem, by rw [← hw, ← ha, opField_append_addrField]⟩
    · cases hm
  unfold select at h
  simp only at h
  split at h
  · next hn => exact .inl ⟨hop 0 hn, (Except.ok.inj h).symm⟩
  · next hn => exact .inr (.inl ⟨hop 1 hn, (Except.ok.inj h).symm⟩)
  · next hn => exact .inr (.inr (hnonBus .tick (by decide) (hop 2 hn) h))
  · next hn => exact .inr (.inr (hnonBus .ackVblank (by decide) (hop 3 hn) h))
  · next hn => exact .inr (.inr (hnonBus .ackStat (by decide) (hop 4 hn) h))
  · next hn => exact .inr (.inr (hnonBus .setDma (by decide) (hop 5 hn) h))
  · cases h

/-- An address in the VRAM window selects VRAM: the ranges of R71 are disjoint. -/
theorem targetOf_vram {a : Addr} (h : inVramWindow a = true) : targetOf a = .vram := by
  rcases targetOf_cases a with ⟨r, rfl, _⟩ | ⟨_, ht⟩ | ⟨ho, _⟩ | ⟨hu, _⟩
  · simp [register_not_window r] at h
  · exact ht
  · rw [inVramWindow_iff] at h
    rw [inOamWindow_iff] at ho
    omega
  · simp [isUnmapped, h] at hu

/-- An address in the OAM window selects OAM. -/
theorem targetOf_oam {a : Addr} (h : inOamWindow a = true) : targetOf a = .oam := by
  rcases targetOf_cases a with ⟨r, rfl, _⟩ | ⟨hv, _⟩ | ⟨_, ht⟩ | ⟨hu, _⟩
  · simp [register_not_window r] at h
  · rw [inOamWindow_iff] at h
    rw [inVramWindow_iff] at hv
    omega
  · exact ht
  · simp [isUnmapped, h] at hu

/-! ### What a row that selects a word says of it (R72) -/

/-- A row that fixes all 19 bits selects its own pattern and no other word. -/
theorem selects_full {m : Mnemonic} {p : ReqWord} (w : ReqWord) :
    (OpcodeRow.mk m p 0x7FFFF#19).selects w = true ↔ w = p := by
  have hand : w &&& 0x7FFFF#19 = w := BitVec.and_allOnes
  rw [OpcodeRow.selects, beq_iff_eq, hand]

/-- A row whose mask keeps the bits from `k` up, its pattern the `op` number `n` and the address `base`, selects only words of
that `op` with one of the `2 ^ k` addresses from `base` on. -/
theorem fields_of_selects_high {m : Mnemonic} {p mask w : ReqWord} (k n base : Nat)
    (hrow : mask = BitVec.allOnes 19 <<< k ∧ (p >>> k) <<< k = p ∧ p.toNat = n * 65536 + base ∧ base + 2 ^ k ≤ 65536)
    (hs : (OpcodeRow.mk m p mask).selects w = true) :
    (opField w).toNat = n ∧ base ≤ (addrField w).toNat ∧ (addrField w).toNat < base + 2 ^ k := by
  obtain ⟨hmask, hp, hpattern, hsize⟩ := hrow
  have hquot : w.toNat / 2 ^ k = p.toNat / 2 ^ k := (selects_high k hmask hp w).1 hs
  have hmul : p.toNat / 2 ^ k * 2 ^ k = p.toNat := by
    have hlt : p.toNat / 2 ^ k * 2 ^ k < 2 ^ 19 := lt_of_le_of_lt (Nat.div_mul_le_self _ _) p.isLt
    conv_rhs => rw [← hp]
    rw [BitVec.toNat_shiftLeft, BitVec.toNat_ushiftRight, Nat.shiftLeft_eq, Nat.shiftRight_eq_div_pow, Nat.mod_eq_of_lt hlt]
  have hlow : p.toNat ≤ w.toNat := by
    rw [← hmul, ← hquot]
    exact Nat.div_mul_le_self _ _
  have hhigh : w.toNat < p.toNat + 2 ^ k := by
    rw [← hmul, ← hquot]
    exact Nat.lt_div_mul_add (Nat.two_pow_pos k)
  have hw : w.toNat = (opField w).toNat * 65536 + (addrField w).toNat := by
    rw [← toNat_word, opField_append_addrField]
  have ha := (addrField w).isLt
  omega

/-- The decoder on a READ word, from the numbers of its fields. -/
theorem select_read_target {w : ReqWord} {t : Target} (hop : (opField w).toNat = 0) (ht : targetOf (addrField w) = t) :
    select w = .ok (.read t) := by
  rw [select_read (BitVec.eq_of_toNat_eq hop), ht]

/-- The decoder on a WRITE word, from the numbers of its fields. -/
theorem select_write_target {w : ReqWord} {t : Target} (hop : (opField w).toNat = 1) (ht : targetOf (addrField w) = t) :
    select w = .ok (.write t) := by
  rw [select_write (BitVec.eq_of_toNat_eq hop), ht]

/-- A window row selects only words of its own `op` with an address in its window. -/
theorem select_of_windowRow {w : ReqWord} {row : OpcodeRow} (hr : row ∈ windowRows) (hs : row.selects w = true) :
    select w = .ok row.mnemonic := by
  simp only [windowRows, List.mem_cons, List.not_mem_nil, or_false] at hr
  rcases hr with rfl | rfl | rfl | rfl | rfl | rfl
  · obtain ⟨hop, ha⟩ := fields_of_selects_high 13 0 0x8000 (by decide) hs
    exact select_read_target hop (targetOf_vram ((inVramWindow_iff _).2 (by omega)))
  · obtain ⟨hop, ha⟩ := fields_of_selects_high 13 1 0x8000 (by decide) hs
    exact select_write_target hop (targetOf_vram ((inVramWindow_iff _).2 (by omega)))
  · obtain ⟨hop, ha⟩ := fields_of_selects_high 7 0 0xFE00 (by decide) hs
    exact select_read_target hop (targetOf_oam ((inOamWindow_iff _).2 (by omega)))
  · obtain ⟨hop, ha⟩ := fields_of_selects_high 5 0 0xFE80 (by decide) hs
    exact select_read_target hop (targetOf_oam ((inOamWindow_iff _).2 (by omega)))
  · obtain ⟨hop, ha⟩ := fields_of_selects_high 7 1 0xFE00 (by decide) hs
    exact select_write_target hop (targetOf_oam ((inOamWindow_iff _).2 (by omega)))
  · obtain ⟨hop, ha⟩ := fields_of_selects_high 5 1 0xFE80 (by decide) hs
    exact select_write_target hop (targetOf_oam ((inOamWindow_iff _).2 (by omega)))

/-- The rows of the registers and of the non-bus operations fix all 19 bits, and their one word decodes to their mnemonic. -/
theorem select_fixedRow : ∀ row ∈ registerRows ++ otherRows.drop 2,
    row.mask = 0x7FFFF#19 ∧ select row.pattern = .ok row.mnemonic := by decide

theorem select_of_fixedRow {w : ReqWord} {row : OpcodeRow} (hr : row ∈ registerRows ++ otherRows.drop 2)
    (hs : row.selects w = true) : select w = .ok row.mnemonic := by
  obtain ⟨m, p, mask⟩ := row
  obtain ⟨rfl, hp⟩ := select_fixedRow _ hr
  rwa [(selects_full w).1 hs]

/-- The first UNMAPPED row selects only READ words, the second only WRITE words. -/
theorem opField_of_unmappedRow {w : ReqWord} {row : OpcodeRow} (hr : row ∈ otherRows.take 2) (hs : row.selects w = true) :
    (opField w = 0#3 ∧ row.mnemonic = .read .unmapped) ∨ (opField w = 1#3 ∧ row.mnemonic = .write .unmapped) := by
  simp only [otherRows, List.take_succ_cons, List.take_zero, List.mem_cons, List.not_mem_nil, or_false] at hr
  rcases hr with rfl | rfl
  · exact .inl ⟨BitVec.eq_of_toNat_eq (fields_of_selects_high 16 0 0 (by decide) hs).1, rfl⟩
  · exact .inr ⟨BitVec.eq_of_toNat_eq (fields_of_selects_high 16 1 0 (by decide) hs).1, rfl⟩

/-! ### Every word the decoder accepts lies in a row of its mnemonic -/

theorem registerRow_mem (r : Reg) :
    ⟨.read (.reg r), 0#3 ++ r.address, 0x7FFFF#19⟩ ∈ opcodeMap ∧
      ⟨.write (.reg r), 1#3 ++ r.address, 0x7FFFF#19⟩ ∈ opcodeMap := by cases r <;> decide

theorem read_row (a : Addr) :
    ∃ row ∈ opcodeMap, row.mnemonic = .read (targetOf a) ∧ row.selects (0#3 ++ a : ReqWord) = true := by
  rcases targetOf_cases a with ⟨r, rfl, ht⟩ | ⟨hv, ht⟩ | ⟨ho, ht⟩ | ⟨hu, ht⟩ <;> rw [ht]
  · exact ⟨_, (registerRow_mem r).1, rfl, (selects_full _).2 rfl⟩
  · exact Laws.RowMatch.readVram a hv
  · exact Laws.RowMatch.readOam a ho
  · exact Laws.RowMatch.readUnmapped a hu

theorem write_row (a : Addr) :
    ∃ row ∈ opcodeMap, row.mnemonic = .write (targetOf a) ∧ row.selects (1#3 ++ a : ReqWord) = true := by
  rcases targetOf_cases a with ⟨r, rfl, ht⟩ | ⟨hv, ht⟩ | ⟨ho, ht⟩ | ⟨hu, ht⟩ <;> rw [ht]
  · exact ⟨_, (registerRow_mem r).2, rfl, (selects_full _).2 rfl⟩
  · exact Laws.RowMatch.writeVram a 0#8 hv
  · exact Laws.RowMatch.writeOam a 0#8 ho
  · exact Laws.RowMatch.writeUnmapped a 0#8 hu

theorem nonBus_row : ∀ m ∈ [Mnemonic.tick, .ackVblank, .ackStat, .setDma],
    ∃ row ∈ opcodeMap, row.mnemonic = m ∧ row.selects (m.op ++ 0#16 : ReqWord) = true := by decide

theorem row_of_select {w : ReqWord} {m : Mnemonic} (h : select w = .ok m) :
    ∃ row ∈ opcodeMap, row.mnemonic = m ∧ row.selects w = true := by
  rcases select_ok h with ⟨hop, rfl⟩ | ⟨hop, rfl⟩ | ⟨hm, rfl⟩
  · rw [← opField_append_addrField w, hop, addrField_append]
    exact read_row (addrField w)
  · rw [← opField_append_addrField w, hop, addrField_append]
    exact write_row (addrField w)
  · exact nonBus_row m hm

/-! ### The first row -/

/-- Where no row of a window or a register selects a word, a bus operation on it is the unmapped one. -/
theorem mnemonic_mem_otherRows {w : ReqWord} {m : Mnemonic} (h : select w = .ok m)
    (hnone : ∀ row ∈ windowRows ++ registerRows, ¬ row.selects w = true) : m ∈ otherRows.map (·.mnemonic) := by
  obtain ⟨row, hr, rfl, hs⟩ := row_of_select h
  rcases List.mem_append.1 hr with hr | hr
  · exact absurd hs (hnone row hr)
  · exact List.mem_map_of_mem hr

/-- The first row that selects a word carries the mnemonic the decoder selects. -/
theorem select_of_firstRow {w : ReqWord} {row : OpcodeRow} (h : opcodeMap.find? (·.selects w) = some row) :
    select w = .ok row.mnemonic := by
  have hs : row.selects w = true := List.find?_some (p := (OpcodeRow.selects · w)) h
  rw [opcodeMap, List.find?_append, Option.or_eq_some_iff] at h
  rcases h with h | ⟨hnone, h⟩
  · rcases List.mem_append.1 (List.mem_of_find?_eq_some h) with hr | hr
    · exact select_of_windowRow hr hs
    · exact select_of_fixedRow (List.mem_append_left _ hr) hs
  · have hr : row ∈ otherRows.take 2 ++ otherRows.drop 2 := by
      rw [List.take_append_drop]
      exact List.mem_of_find?_eq_some h
    rcases List.mem_append.1 hr with hr | hr
    · rw [List.find?_eq_none] at hnone
      rcases opField_of_unmappedRow hr hs with ⟨hop, hm⟩ | ⟨hop, hm⟩
      · have ht : targetOf (addrField w) = .unmapped := by
          simpa [otherRows] using mnemonic_mem_otherRows (select_read hop) hnone
        rw [hm, select_read hop, ht]
      · have ht : targetOf (addrField w) = .unmapped := by
          simpa [otherRows] using mnemonic_mem_otherRows (select_write hop) hnone
        rw [hm, select_write hop, ht]
    · exact select_of_fixedRow (List.mem_append_right _ hr) hs

theorem select_iff_mapMnemonic (w : ReqWord) (m : Mnemonic) : select w = .ok m ↔ mapMnemonic w = some m := by
  rw [mapMnemonic, Option.map_eq_some_iff]
  constructor
  · intro h
    obtain ⟨row, hr, -, hs⟩ := row_of_select h
    obtain ⟨first, hfirst⟩ := Option.isSome_iff_exists.1 ((List.find?_isSome (p := (OpcodeRow.selects · w))).2 ⟨row, hr, hs⟩)
    exact ⟨first, hfirst, Except.ok.inj ((select_of_firstRow hfirst).symm.trans h)⟩
  · rintro ⟨row, hrow, rfl⟩
    exact select_of_firstRow hrow

/-! ### The operation decoded -/

@[simp] theorem readInstr_mnemonic (a : Addr) (t : Target) : (readInstr a t).mnemonic = .read t := by
  cases t with
  | reg r => cases r <;> rfl
  | _ => rfl

@[simp] theorem writeInstr_mnemonic (a : Addr) (d : Byte) (t : Target) : (writeInstr a d t).mnemonic = .write t := by
  cases t with
  | reg r => cases r <;> rfl
  | _ => rfl

/-- Joining a mnemonic with its operands keeps the mnemonic (R70). -/
theorem assemble_mnemonic {w : ReqWord} {n : Nat} {m : Mnemonic} {i : Instr} (h : assemble w n m = .ok i) :
    i.mnemonic = m := by
  cases m with
  | read t => cases h; exact readInstr_mnemonic _ t
  | write t =>
    rw [assemble] at h
    split at h <;> cases h
    exact writeInstr_mnemonic _ _ t
  | setDma =>
    rw [assemble] at h
    split at h <;> cases h
    rfl
  | _ => cases h; rfl

/-- The operation the decoder answers has the mnemonic its word selects. -/
theorem select_of_decode {r : Request} {i : Instr} (h : decode r = .ok i) : select r.word = .ok i.mnemonic := by
  unfold decode at h
  split at h
  · cases h
  · next m hm => rw [hm, assemble_mnemonic h]

/-- Settles O3: `select_iff_mapMnemonic` for the word, and `select_of_decode` for the operation answered. -/
theorem decoderFollowsOpcodeMap : Obligations.DecoderFollowsOpcodeMap := by
  unfold Obligations.DecoderFollowsOpcodeMap
  exact ⟨select_iff_mapMnemonic, fun r i h => (select_iff_mapMnemonic r.word i.mnemonic).1 (select_of_decode h)⟩

end Sys2Proof
end

section
/-!
TICK in each mode (40_scheduler.md R78 to R92). The statements on a mode hold of states with any pipeline, so they go through one
turn of the tick loop; what a transition leaves is said once, as a whole state, for each transition. The interrupt
requests of R92 are then read off these whole states, mode by mode.
-/

namespace Sys2Proof.Machine

/-! ### Events and transitions as whole states -/

theorem statEvent_eq (s : State) (i : Nat) : s.statEvent i = { s with statIrq := s.statIrq || bit s.statSel i } := by
  unfold State.statEvent
  split
  · next h => simp [h]
  · next h => simp [Bool.not_eq_true _ ▸ h]

theorem coincidenceCheck_eq (s : State) :
    coincidenceCheck s = { s with statIrq := s.statIrq || (s.ly == s.lyc && bit s.statSel 6) } := by
  unfold coincidenceCheck
  split
  · next h => rw [statEvent_eq, show (s.ly == s.lyc) = true from h, Bool.true_and]
  · next h => rw [show (s.ly == s.lyc) = false from Bool.not_eq_true _ ▸ h, Bool.false_and, Bool.or_false]

theorem startLine_eq (s : State) (ly : Byte) :
    startLine s ly =
      { s with modeClock := 0, ly := ly, statIrq := s.statIrq || (ly == s.lyc && bit s.statSel 6) } :=
  coincidenceCheck_eq _

/-- The end of HBlank on a visible line, as one update (R87 to R89, R91). -/
theorem endHBlank_eq {s : State} (h : s.ly ≤ 143#8) :
    endHBlank s =
      { s with
        mode := if s.ly = 143#8 then .vblank else .search
        modeClock := 0
        ly := s.ly + 1#8
        vblankIrq := s.vblankIrq || s.ly == 143#8
        statIrq := s.statIrq || (s.ly + 1#8 == s.lyc && bit s.statSel 6) ||
          (if s.ly = 143#8 then bit s.statSel 4 else bit s.statSel 5) } := by
  rcases endHBlank_cases s with ⟨hlast, he⟩ | ⟨hvisible, he⟩
  · have hly : s.ly = 143#8 := by bv_omega
    rw [he, startLine_eq, enterVBlank, statEvent_eq]
    simp [hly]
  · have hly : s.ly ≠ 143#8 := by bv_omega
    rw [he, startLine_eq, enterSearch, statEvent_eq]
    simp [hly]

/-- The VBlank slot that reads as line 0 ends the frame, without a coincidence check (R90). -/
theorem vblankSlotEnd_lineZero {s : State} (h : s.ly = 0#8) :
    vblankSlotEnd s = { s with mode := .search, modeClock := 0, statIrq := s.statIrq || bit s.statSel 5 } := by
  rw [vblankSlotEnd, if_pos h, ← h]
  exact statEvent_eq _ _

/-- The VBlank slot of line 152 leads to line 0: 153 is reset at once, and the check sees 0 (R90, R91). -/
theorem vblankSlotEnd_line152 {s : State} (h : s.ly = 152#8) :
    vblankSlotEnd s =
      { s with modeClock := 0, ly := 0#8, statIrq := s.statIrq || (s.lyc == 0#8 && bit s.statSel 6) } := by
  have hne : s.ly ≠ 0#8 := by rw [h]; decide
  have h153 : s.ly + 1#8 = 153#8 := by rw [h]; decide
  rw [vblankSlotEnd, if_neg hne, if_pos h153, startLine_eq, BEq.comm]

/-- The VBlank slot of any other line leads to the next line (R90, R91). -/
theorem vblankSlotEnd_nextLine {s : State} (h0 : s.ly ≠ 0#8) (h152 : s.ly < 152#8) :
    vblankSlotEnd s =
      { s with
        modeClock := 0, ly := s.ly + 1#8, statIrq := s.statIrq || (s.ly + 1#8 == s.lyc && bit s.statSel 6) } := by
  have h153 : s.ly + 1#8 ≠ 153#8 := by bv_omega
  rw [vblankSlotEnd, if_neg h0, if_neg h153, startLine_eq]

/-! ### One turn of the tick loop -/

/-- A budget that one turn of the loop uses up (R78). -/
theorem tick_one_turn {c : Config} {n : Nat} {s t : State} (he : s.displayEnabled = true) (hf : s.fault = none) (hn : 0 < n)
    (h : modeHandler c n s = (0, t)) : tick c n s = t := by
  obtain ⟨k, hk⟩ : ∃ k, 2 * n = k + 2 := ⟨2 * n - 2, by omega⟩
  have hgo : ¬ (n = 0 ∨ s.fault ≠ none) := by simp [hf]; omega
  rw [tick, if_pos he, hk, tickLoop, if_neg hgo, h, tickLoop, if_pos (.inl rfl)]

theorem tick_zero (c : Config) (s : State) : tick c 0 s = s := by
  unfold tick
  split <;> rfl

section
variable {c : Config} {len : Nat} {tr : State → State} {s : State}

/-- TICK in a timed mode, with a budget short of the mode's length (R81, R83, R84). -/
theorem tick_timed_within {n : Nat} (he : s.displayEnabled = true) (hf : s.fault = none)
    (hm : modeHandler c n s = timedHandler len tr n s) (h : s.modeClock + n < len) :
    tick c n s = { s with modeClock := s.modeClock + n } := by
  rcases Nat.eq_zero_or_pos n with rfl | hn
  · exact tick_zero c s
  · exact tick_one_turn he hf hn (hm.trans (timedHandler_within h))

/-- TICK in a timed mode, with the budget that reaches the mode's length exactly (R80). -/
theorem tick_timed_reach (he : s.displayEnabled = true) (hf : s.fault = none)
    (hm : modeHandler c (len - s.modeClock) s = timedHandler len tr (len - s.modeClock) s) (h : s.modeClock < len) :
    tick c (len - s.modeClock) s = tr { s with modeClock := len } := by
  refine tick_one_turn he hf (by omega) ?_
  rw [hm, timedHandler_reach (by omega) (by omega), Nat.sub_self]

end

/-- One cycle of Transfer under TICK. -/
theorem tick_one_transfer (c : Config) {s : State} (he : s.displayEnabled = true) (hf : s.fault = none)
    (hm : s.mode = .transfer) : tick c 1 s = transferCycle c s := by
  refine tick_one_turn he hf (by omega) ?_
  rw [modeHandler_transfer c 1 hm, transferHandler]
  split <;> rfl

/-- A cycle of Transfer whose fetcher step faults is that step alone (R174). -/
theorem transferCycle_faulted (c : Config) {s : State} (h : (fetcherStep s).fault ≠ none) :
    transferCycle c s = fetcherStep s := by
  rw [transferCycle, pseudoCycle, andThen_stopped h, andThen_stopped h]

/-- A cycle of Transfer without a fault: the two steps, then the bookkeeping (R82, R99). -/
theorem transferCycle_running (c : Config) {s : State} (h : (fetcherStep s).fault = none) :
    transferCycle c s = closeTransferCycle (fifoStep c (fetcherStep s)) := by
  have hfifo : (fifoStep c (fetcherStep s)).fault = none := by rw [fifoStep_frame]; exact h
  rw [transferCycle, pseudoCycle, andThen_running h, andThen_running hfifo]

/-! ### The obligations on TICK -/

/-- Settles O20: the budget is dropped with the display disabled, and `NOP` has no budget. -/
theorem tickWithoutEffect : Obligations.TickWithoutEffect := by
  unfold Obligations.TickWithoutEffect
  refine ⟨fun s n hf he => ?_, by decide, fun s hf => ?_⟩
  · have hoff : ¬ s.displayEnabled = true := by simp [State.displayEnabled, he]
    rw [exec_running hf, effect, tick, if_neg hoff]
  · rw [exec_running hf, effect, tick_zero]

/-- Settles O21: one turn of the timed handler of Search, which ends in `enterTransfer`. -/
theorem tickInSearch : Obligations.TickInSearch := by
  unfold Obligations.TickInSearch
  intro s hf he hm hc
  refine ⟨fun n hn => ?_, ?_⟩
  · rw [exec_running hf, effect, tick_timed_within he hf (modeHandler_search _ n hm) hn]
  · rw [exec_running hf, effect]
    exact congrArg _ (tick_timed_reach he hf (modeHandler_search _ _ hm) hc)

/-- Settles O22: one turn of the timed handler of HBlank, whose transition is `endHBlank_eq`. -/
theorem tickInHBlank : Obligations.TickInHBlank := by
  unfold Obligations.TickInHBlank
  intro s hf he hm hly hc
  refine ⟨fun n hn => ?_, ?_⟩
  · rw [exec_running hf, effect, tick_timed_within he hf (modeHandler_hblank _ n hm) hn]
  · rw [exec_running hf, effect]
    exact congrArg _ ((tick_timed_reach he hf (modeHandler_hblank _ _ hm) hc).trans (endHBlank_eq hly))

/-- Settles O23: one turn of the timed handler of VBlank; the lemmas on `vblankSlotEnd` give its transition for each line. -/
theorem tickInVBlank : Obligations.TickInVBlank := by
  unfold Obligations.TickInVBlank
  intro s hf he hm hc
  have hend : exec (.tick (456 - s.modeClock)) s = .next (vblankSlotEnd { s with modeClock := 456 }) := by
    rw [exec_running hf, effect]
    exact congrArg _ (tick_timed_reach he hf (modeHandler_vblank _ _ hm) hc)
  refine ⟨fun n hn => ?_, fun hly => ?_, fun hly => ?_, fun hlo hhi => ?_⟩
  · rw [exec_running hf, effect, tick_timed_within he hf (modeHandler_vblank _ n hm) hn]
  · exact hend.trans (congrArg _ (vblankSlotEnd_lineZero hly))
  · exact hend.trans (congrArg _ (vblankSlotEnd_line152 hly))
  · have h0 : s.ly ≠ 0#8 := by bv_omega
    exact hend.trans (congrArg _ (vblankSlotEnd_nextLine h0 hhi))

/-- Settles O24: a single turn is `transferCycle`, split at the fault of its fetcher step and at the cursor it leaves. -/
theorem tickInTransfer : Obligations.TickInTransfer := by
  unfold Obligations.TickInTransfer
  intro s hf he hm f p
  have hp : p = fifoStep Config.given (fetcherStep s) := rfl
  have hkept : p.modeClock = s.modeClock ∧ p.statSel = s.statSel ∧ p.statIrq = s.statIrq := by
    rw [hp, fifoStep_frame, fetcherStep_frame]
    exact ⟨rfl, rfl, rfl⟩
  obtain ⟨hclock, hsel, hirq⟩ := hkept
  rw [exec_running hf, effect, tick_one_transfer _ he hf hm]
  refine ⟨fun hfault => ?_, fun hrun hcur => ?_, fun hrun hcur => ?_⟩
  · rw [transferCycle_faulted _ hfault]
  · rw [transferCycle_running _ hrun, ← hp, closeTransferCycle, if_neg hcur, hclock]
  · rw [transferCycle_running _ hrun, ← hp, closeTransferCycle, if_pos hcur, enterHBlank, statEvent_eq, ← hsel, ← hirq]

/-! ### Interrupt requests -/

/-- The latches after one cycle from `s` to `t` are those of R92's events between the two states. -/
def LatchesFollowEvents (s t : State) : Prop :=
  (t.statIrq = true ↔ s.statIrq = true ∨
    (s.mode ≠ .search ∧ t.mode = .search ∧ bit s.statSel 5 = true) ∨
    (s.mode ≠ .hblank ∧ t.mode = .hblank ∧ bit s.statSel 3 = true) ∨
    (s.mode ≠ .vblank ∧ t.mode = .vblank ∧ bit s.statSel 4 = true) ∨
    (t.ly ≠ s.ly ∧ t.ly = s.lyc ∧ bit s.statSel 6 = true)) ∧
  (t.vblankIrq = true ↔ s.vblankIrq = true ∨ (s.mode ≠ .vblank ∧ t.mode = .vblank)) ∧
  (s.mode ≠ .vblank → t.mode = .vblank → s.mode = .hblank ∧ t.ly = 144#8)

/-- A cycle that keeps the mode, the line and the latches has no event. -/
theorem latchesFollowEvents_of_same {s t : State} (hm : t.mode = s.mode) (hl : t.ly = s.ly) (hs : t.statIrq = s.statIrq)
    (hv : t.vblankIrq = s.vblankIrq) : LatchesFollowEvents s t := by
  rw [LatchesFollowEvents, hm, hl, hs, hv]
  tauto

/-- A pseudo-cycle leaves the mode, the line, the STAT enables and the latches (R99). -/
theorem pseudoCycle_schedule (c : Config) (s : State) :
    (pseudoCycle c s).mode = s.mode ∧ (pseudoCycle c s).ly = s.ly ∧ (pseudoCycle c s).statSel = s.statSel ∧
      (pseudoCycle c s).vblankIrq = s.vblankIrq ∧ (pseudoCycle c s).statIrq = s.statIrq := by
  rw [pseudoCycle_frame]
  exact ⟨rfl, rfl, rfl, rfl, rfl⟩

/-- What a cycle of Transfer does to the scheduler's state and the latches (R82, R86). -/
theorem transferCycle_schedule (c : Config) (s : State) :
    (transferCycle c s).ly = s.ly ∧ (transferCycle c s).vblankIrq = s.vblankIrq ∧
      ((transferCycle c s).mode = s.mode ∧ (transferCycle c s).statIrq = s.statIrq ∨
        (transferCycle c s).mode = .hblank ∧ (transferCycle c s).statIrq = (s.statIrq || bit s.statSel 3)) := by
  obtain ⟨hm, hly, hsel, hv, hs⟩ := pseudoCycle_schedule c s
  rcases transferCycle_cases c s with ⟨_, h⟩ | ⟨_, h⟩
  · rcases closeTransferCycle_cases (pseudoCycle c s) with ⟨_, h'⟩ | ⟨_, h'⟩
    · simp [h, h', enterHBlank, hly, hsel, hv, hs]
    · rw [h, h']
      exact ⟨hly, hv, .inl ⟨hm, hs⟩⟩
  · rw [h]
    exact ⟨hly, hv, .inl ⟨hm, hs⟩⟩

section
variable {s : State} (hf : s.running) (he : s.displayEnabled = true) (hi : s.TimingInv)
include hf he

/-- Only the last cycle of Transfer has an event, the entry of HBlank (bit 3). -/
theorem latches_of_transfer_cycle (hm : s.mode = .transfer) :
    ∃ t, exec (.tick 1) s = .next t ∧ LatchesFollowEvents s t := by
  refine ⟨_, by rw [exec_running hf, effect, tick_one_transfer _ he hf hm], ?_⟩
  obtain ⟨hly, hv, ⟨hm', hs⟩ | ⟨hm', hs⟩⟩ := transferCycle_schedule Config.given s
  · exact latchesFollowEvents_of_same hm' hly hs hv
  · simp [LatchesFollowEvents, hm, hm', hly, hs, hv]

include hi

/-- The last cycle of Search enters Transfer, which is no event. -/
theorem latches_of_search_cycle (hm : s.mode = .search) :
    ∃ t, exec (.tick 1) s = .next t ∧ LatchesFollowEvents s t := by
  have hc : s.modeClock < 80 := hi.clock.1 hm
  obtain ⟨hwithin, hreach⟩ := tickInSearch s hf he hm hc
  by_cases h : s.modeClock + 1 < 80
  · exact ⟨_, hwithin 1 h, latchesFollowEvents_of_same rfl rfl rfl rfl⟩
  · rw [show 80 - s.modeClock = 1 by omega] at hreach
    exact ⟨_, hreach, by simp [LatchesFollowEvents]⟩

/-- The last cycle of HBlank may have two events: the new line's coincidence, and the entry of Search or VBlank. -/
theorem latches_of_hblank_cycle (hm : s.mode = .hblank) :
    ∃ t, exec (.tick 1) s = .next t ∧ LatchesFollowEvents s t := by
  have hc : s.modeClock < 204 - s.borrowed := hi.clock.2.1 hm
  have hly : s.ly ≤ 143#8 := hi.visibleLine (by simp [hm])
  obtain ⟨hwithin, hreach⟩ := tickInHBlank s hf he hm hly hc
  by_cases h : s.modeClock + 1 < 204 - s.borrowed
  · exact ⟨_, hwithin 1 h, latchesFollowEvents_of_same rfl rfl rfl rfl⟩
  · rw [show 204 - s.borrowed - s.modeClock = 1 by omega] at hreach
    refine ⟨_, hreach, ?_⟩
    by_cases hlast : s.ly = 143#8 <;> simp [LatchesFollowEvents, hm, hlast, or_comm, or_left_comm]

/-- The last cycle of a VBlank slot enters Search from line 0, or has the new line's coincidence. -/
theorem latches_of_vblank_cycle (hm : s.mode = .vblank) :
    ∃ t, exec (.tick 1) s = .next t ∧ LatchesFollowEvents s t := by
  have hc : s.modeClock < 456 := hi.clock.2.2 hm
  obtain ⟨hwithin, hzero, h152, hnext⟩ := tickInVBlank s hf he hm hc
  by_cases h : s.modeClock + 1 < 456
  · exact ⟨_, hwithin 1 h, latchesFollowEvents_of_same rfl rfl rfl rfl⟩
  rw [show 456 - s.modeClock = 1 by omega] at hzero h152 hnext
  by_cases hly0 : s.ly = 0#8
  · exact ⟨_, hzero hly0, by simp [LatchesFollowEvents, hm]⟩
  by_cases hly152 : s.ly = 152#8
  · exact ⟨_, h152 hly152, by simp [LatchesFollowEvents, hm, hly152, eq_comm (a := 0#8)]⟩
  · have hline : 144#8 ≤ s.ly ∧ s.ly ≤ 152#8 := (hi.vblankLine hm).resolve_right hly0
    exact ⟨_, hnext hline.1 (by bv_omega), by simp [LatchesFollowEvents, hm]⟩

theorem latches_of_cycle : ∃ t, exec (.tick 1) s = .next t ∧ LatchesFollowEvents s t := by
  cases hm : s.mode with
  | search => exact latches_of_search_cycle hf he hi hm
  | transfer => exact latches_of_transfer_cycle hf he hm
  | hblank => exact latches_of_hblank_cycle hf he hi hm
  | vblank => exact latches_of_vblank_cycle hf he hi hm

end

/-- Settles O30: one cycle in each mode, read off its whole next state; only TICK sets the latch by `interruptLatchWriters`. -/
theorem interruptRequestSources : Obligations.InterruptRequestSources := by
  unfold Obligations.InterruptRequestSources
  obtain ⟨_, _, hwriters⟩ := interruptLatchWriters
  refine ⟨fun _ hf hi he => latches_of_cycle hf he hi, fun i s t h => ?_⟩
  obtain ⟨_, _, hset, _⟩ := hwriters i s t h
  exact hset

end Sys2Proof.Machine
end

section
/-!
The pixel pipeline in the numbers and whole states of its rules (41_pixel_pipeline.md R101 to R114). The tile-data address in
mode 0 is an integer sum with a signed tile number; the fetcher's and the FIFO's steps are the cases of
`fetcherStep_cases` and `fifoStep_cases`, selected by what each rule assumes.
-/

namespace Sys2Proof.Machine

/-! ### The fetcher's addresses -/

/-- Settles O32: `mapAddr` by its definition, the two readings of the column by arithmetic, and the range `mapAddr_range`. -/
theorem tilemapAddress : Obligations.TilemapAddress := by
  unfold Obligations.TilemapAddress
  intro s
  exact ⟨rfl, by omega, mapAddr_range s⟩

theorem tileAddr_unsigned {s : State} (h : bit s.lcdc 4 = true) : tileAddr s = 0x8000 + 16 * s.tileIdx.toNat := by
  rw [tileAddr, if_pos h, tdUnsignedBase]

/-- In mode 0 the offset `toInt + 128` is never negative, so its `toNat` is the integer itself (R104). -/
theorem tileAddr_signed {s : State} (h : bit s.lcdc 4 = false) :
    (tileAddr s : Int) = 0x7800 + 16 * (s.tileIdx.toInt + 128) := by
  have hmin : -128 ≤ s.tileIdx.toInt := BitVec.le_toInt s.tileIdx
  have hbase : tdSignedBase = 0x7800 := rfl
  rw [tileAddr, if_neg (by simp [h]), hbase]
  omega

/-- In mode 0 tile number 0x7F has the highest address of the positive half, 0x87F0 (R104). -/
theorem tileAddr_signed_le {s : State} (h : bit s.lcdc 4 = false) (hidx : s.tileIdx.toNat < 0x80) :
    tileAddr s ≤ 0x87F0 := by
  have haddr := tileAddr_signed h
  have hmax : s.tileIdx.toInt = s.tileIdx.toNat := BitVec.toInt_eq_toNat_of_lt (by omega)
  omega

/-- Settles O33: `tileAddr_unsigned` in mode 1, `tileAddr_signed` in mode 0 with the ranges of `tileAddr_range`. -/
theorem tileDataAddress : Obligations.TileDataAddress := by
  unfold Obligations.TileDataAddress
  intro s
  obtain ⟨hlow, hhigh⟩ := tileAddr_range s
  refine ⟨tileAddr_unsigned, fun hmode => ⟨?_, tileAddr_signed hmode, fun hidx => ?_, hhigh hmode⟩, rfl, rfl⟩
  · rw [tileAddr_signed hmode]
    omega
  · exact ⟨(hlow (.inr hidx)).1, tileAddr_signed_le hmode hidx⟩

/-! ### The fetcher's steps -/

/-- The column counter wraps at its width, 5 bits (R108). -/
theorem fcol_succ (v : BitVec 5) : v + 1#5 = BitVec.ofNat 5 ((v.toNat + 1) % 32) := by
  apply BitVec.eq_of_toNat_eq
  simp

/-- Settles O34: under each clause's hypotheses one case of `fetcherStep_cases` is left. -/
theorem fetcherSteps : Obligations.FetcherSteps := by
  unfold Obligations.FetcherSteps
  intro s
  have hcases := fetcherStep_cases s
  refine ⟨fun next hf => ?_, fun hf => ?_, fun hf ha => ?_, fun hf ha => ?_, fun hf ha => ?_, fun hf ha => ?_,
    fun hf => ?_, fun hf hroom => ?_, fun hf hfull => ?_⟩
  · have hidle : fetcherStep s = { s with fstate := next.target } := by simpa [hf] using hcases
    rw [hidle]
    cases next <;> rfl
  · simpa [hf] using hcases
  · simpa [hf, ha, Nat.not_lt.2 ha] using hcases
  · simpa [hf, ha, Nat.not_le.2 ha, State.raise] using hcases
  · simpa [hf, ha, Nat.not_lt.2 ha] using hcases
  · simpa [hf, ha, Nat.not_le.2 ha, State.raise] using hcases
  · simpa [hf, fcol_succ] using hcases
  · simpa [hf, hroom, Nat.not_lt.2 hroom, tilePixels] using hcases
  · simpa [hf, hfull, Nat.not_le.2 hfull] using hcases

/-! ### The FIFO's steps -/

section
variable {s : State} {v : ColorIndex} {rest : List ColorIndex} (h : s.fifo = v :: rest)
include h

theorem discardPop_cons : discardPop s = { s with fifo := rest, discard := s.discard - 1, borrowed := s.borrowed + 1 } := by
  rw [discardPop, h, List.tail_cons]

theorem emitPop_cons (c : Config) :
    emitPop c s =
      { s with
        fifo := rest, fb := fbWrite s.fb s.cursor s.ly.toNat (monoResolve c s.bgp v), cursor := s.cursor + 1 } := by
  rw [emitPop, h, List.tail_cons, List.headD_cons]

end

/-- Settles O35: each clause selects one case of `fifoStep_cases`, and the pop takes the head of the FIFO. -/
theorem fifoSteps : Obligations.FifoSteps := by
  unfold Obligations.FifoSteps
  intro c s v rest
  rcases fifoStep_cases c s with ⟨hle, hstep⟩ | ⟨hgt, hdiscard, hstep⟩ | ⟨hgt, hdiscard, hstep⟩
  · exact ⟨fun _ => hstep, fun hgt => by omega, fun hgt => by omega⟩
  · exact ⟨fun hle => by omega, fun _ hfifo _ => hstep.trans (discardPop_cons hfifo), fun _ _ hzero => by omega⟩
  · exact ⟨fun hle => by omega, fun _ _ hpos => by omega, fun _ hfifo _ => hstep.trans (emitPop_cons hfifo c)⟩

/-! ### The pixels of a tile row -/

theorem toNat_ofBool_bit (v : Byte) (i : Nat) : (BitVec.ofBool (bit v i)).toNat = v.toNat / 2 ^ i % 2 := by
  rw [BitVec.toNat_ofBool, bit, ← BitVec.testBit_toNat, Nat.toNat_testBit]

/-- The high plane gives bit 1 of the color index and the low plane bit 0 (R110). -/
theorem pixel_toNat (lo hi : Byte) (i : Nat) :
    (pixel lo hi i).toNat = 2 * (hi.toNat / 2 ^ (7 - i) % 2) + lo.toNat / 2 ^ (7 - i) % 2 := by
  rw [pixel, BitVec.toNat_append, ← Nat.shiftLeft_add_eq_or_of_lt (BitVec.isLt _), Nat.shiftLeft_eq, toNat_ofBool_bit,
    toNat_ofBool_bit]
  omega

/-- Settles O36: the pixels are listed by their index, and each has the number `pixel_toNat`. -/
theorem planesCombineIntoPixels : Obligations.PlanesCombineIntoPixels := by
  unfold Obligations.PlanesCombineIntoPixels
  intro lo hi
  refine ⟨by simp [tilePixels], fun i hlt => ⟨pixel lo hi i, ?_, pixel_toNat lo hi i⟩⟩
  rw [tilePixels, List.getElem?_map, List.getElem?_range hlt, Option.map_some]

end Sys2Proof.Machine
end

section
/-!
The two arithmetic functions of the color resolver (42_color_resolver.md R119, R121): the shade a palette byte gives a color
index, and the order of the expanded channels.
-/

namespace Sys2Proof.Machine

/-! ### The shade of a color index -/

/-- The shade in numbers (R119): the two bits of the palette byte at bit 2v. -/
theorem shadeOf_eq_ofNat (pal : Byte) (v : ColorIndex) :
    shadeOf pal v = BitVec.ofNat 2 (pal.toNat / 2 ^ (2 * v.toNat) % 4) := by
  apply BitVec.eq_of_toNat_eq
  rw [shadeOf, BitVec.toNat_setWidth, BitVec.toNat_ushiftRight, Nat.shiftRight_eq_div_pow, BitVec.toNat_ofNat, Nat.mod_mod]

/-- The four bit pairs of 0xE4 are 0, 1, 2 and 3, lowest first. -/
theorem shadeOf_identity_palette : ∀ v : ColorIndex, shadeOf 0xE4#8 v = v := by decide

/-- The four bit pairs of 0x1B are 3, 2, 1 and 0, lowest first. -/
theorem shadeOf_inverted_palette : ∀ v : ColorIndex, shadeOf 0x1B#8 v = 3#2 - v := by decide

theorem shadeOf_lightest_palette (v : ColorIndex) : shadeOf 0x00#8 v = 0#2 := by
  rw [shadeOf, BitVec.zero_ushiftRight, BitVec.setWidth_zero]

theorem shadeOf_darkest_palette : ∀ v : ColorIndex, shadeOf 0xFF#8 v = 3#2 := by decide

/-- Settles O41: the table is looked up at `shadeOf`, whose value each clause names. -/
theorem monochromeShade : Obligations.MonochromeShade := by
  unfold Obligations.MonochromeShade
  intro c v
  have lookup {pal : Byte} {k : BitVec 2} (h : shadeOf pal v = k) : monoResolve c pal v = c.monoShade k := by
    rw [monoResolve, h]
  exact ⟨fun pal => lookup (shadeOf_eq_ofNat pal v), lookup (shadeOf_identity_palette v),
    lookup (shadeOf_inverted_palette v), lookup (shadeOf_lightest_palette v), lookup (shadeOf_darkest_palette v)⟩

/-! ### The order of the expanded channels -/

/-- A brighter channel stays brighter (R121): 8c grows and c div 4 does not shrink. -/
theorem expand5_lt_expand5 {c d : BitVec 5} (h : c < d) : expand5 c < expand5 d := by
  rw [BitVec.lt_def] at h ⊢
  rw [expand5_toNat, expand5_toNat]
  omega

/-- Settles O42: the value is `expand5_toNat`, the order follows from it, and the corner values are computed. -/
theorem channelExpansion : Obligations.ChannelExpansion := by
  unfold Obligations.ChannelExpansion
  exact ⟨expand5_toNat, fun _ _ => expand5_lt_expand5, rfl, rfl, rfl, rfl, rfl⟩

end Sys2Proof.Machine
end

section
/-!
The words of bus operations (30_encoding.md R71, R72), decoded once for each way an address selects its target: the two
windows, the registers, and the addresses mapped to nothing.
-/

namespace Sys2Proof

theorem targetOf_unmapped {a : Addr} (h : isUnmapped a = true) : targetOf a = .unmapped := by
  rcases targetOf_cases a with ⟨r, rfl, _⟩ | ⟨hv, _⟩ | ⟨ho, _⟩ | ⟨_, ht⟩
  · simp [isUnmapped, register_address r] at h
  · simp [isUnmapped, hv] at h
  · simp [isUnmapped, ho] at h
  · exact ht

/-- A READ word decodes to the READ of what its address selects, whatever the number beside it is. -/
theorem decode_read {a : Addr} {t : Target} (ht : targetOf a = t) (x : Nat) :
    decode ⟨(0b000#3 ++ a : ReqWord), x⟩ = .ok (readInstr a t) := by
  have hsel : select (0b000#3 ++ a : ReqWord) = .ok (.read t) := select_read_target (by simp) (by simpa using ht)
  simp [decode, hsel, assemble]

/-- A WRITE word with a byte beside it decodes to the WRITE of that byte to what its address selects. -/
theorem decode_write {a : Addr} {t : Target} (ht : targetOf a = t) (d : Byte) :
    decode ⟨(0b001#3 ++ a : ReqWord), d.toNat⟩ = .ok (writeInstr a d t) := by
  have hsel : select (0b001#3 ++ a : ReqWord) = .ok (.write t) := select_write_target (by simp) (by simpa using ht)
  have hd : d.toNat < 256 := d.isLt
  simp [decode, hsel, assemble, hd]

theorem decode_readRegister (r : Reg) (x : Nat) :
    decode ⟨(0b000#3 ++ r.address : ReqWord), x⟩ = .ok (readInstr r.address (.reg r)) :=
  decode_read (targetOf_register r) x

theorem decode_writeRegister (r : Reg) (d : Byte) :
    decode ⟨(0b001#3 ++ r.address : ReqWord), d.toNat⟩ = .ok (writeInstr r.address d (.reg r)) :=
  decode_write (targetOf_register r) d

end Sys2Proof
end

section
/-!
The bytes that a register read composes, in numbers (10_state.md R27, R36; 43_bus_arbiter.md R132, R154). The parts of each
byte do not overlap, so that the byte is their sum.
-/

namespace Sys2Proof.Machine

/-! ### STAT -/

/-- The bits of the STAT byte beside the stored enables: unused bit, coincidence, mode (R27; `statByte_eq` ties them to the
byte). -/
def statusBits (u : BitVec 1) (b : Bool) (e : BitVec 2) : Byte :=
  (u.setWidth 8 <<< 7) ||| ((BitVec.ofBool b).setWidth 8 <<< 2) ||| e.setWidth 8

/-- They lie outside bits 6:3, and their number is the sum of the parts. -/
theorem statusBits_spec : ∀ (u : BitVec 1) (b : Bool) (e : BitVec 2),
    0x87#8 &&& statusBits u b e = statusBits u b e ∧
      (statusBits u b e).toNat = 128 * u.toNat + (if b then 4 else 0) + e.toNat := by
  decide

theorem statByte_eq (c : Config) (s : State) :
    statByte c s = s.statSel ||| statusBits c.unusedBitRead (coincidence s) (enc s.mode) := by
  unfold statByte statusBits
  ac_rfl

/-- The STAT byte in numbers: the stored byte holds bits 6:3 only, so that the sum has no carry. -/
theorem statByte_toNat (c : Config) {s : State} (h : s.statSelReserved) :
    (statByte c s).toNat =
      128 * c.unusedBitRead.toNat + s.statSel.toNat + (if s.ly = s.lyc then 4 else 0) + (enc s.mode).toNat := by
  obtain ⟨hmask, hsum⟩ := statusBits_spec c.unusedBitRead (coincidence s) (enc s.mode)
  have hdisjoint : s.statSel &&& statusBits c.unusedBitRead (coincidence s) (enc s.mode) = 0#8 := by
    rw [← hmask, ← BitVec.and_assoc, h, BitVec.zero_and]
  rw [statByte_eq, ← BitVec.add_eq_or_of_and_eq_zero _ _ hdisjoint, BitVec.toNat_add_of_and_eq_zero hdisjoint, hsum]
  simp only [coincidence, beq_iff_eq]
  omega

theorem enc_toNat (m : Mode) :
    (enc m).toNat = match m with | .hblank => 0 | .vblank => 1 | .search => 2 | .transfer => 3 := by
  cases m <;> rfl

/-- Bit 2 of the STAT byte is the coincidence at the read. -/
theorem bit_two_statByte (c : Config) {s : State} (h : s.statSelReserved) : bit (statByte c s) 2 = (s.ly == s.lyc) := by
  have hsel : s.statSel.getLsbD 2 = false := by
    have h2 : (s.statSel &&& 0x87#8).getLsbD 2 = false := by rw [h]; rfl
    simpa using h2
  simp only [bit, statByte, BitVec.getLsbD_or, hsel]
  simp [coincidence]

/-! ### VBK and the palette index registers -/

theorem vbkByte_toNat (c : Config) (s : State) :
    (vbkByte c s).toNat = 254 * c.unusedBitRead.toNat + s.vbk.toNat := by
  have hbits : ∀ u v : BitVec 1, ((u.setWidth 8 * 0xFE#8) ||| v.setWidth 8).toNat = 254 * u.toNat + v.toNat := by decide
  exact hbits c.unusedBitRead s.vbk

theorem indexByte_eq_append (c : Config) (ai : BitVec 1) (idx : BitVec 6) :
    indexByte c ai idx = (ai ++ c.unusedBitRead ++ idx : Byte) := by
  have h := BitVec.setWidth_append_append_eq_shiftLeft_setWidth_or (w''' := 8) (b := ai) (b' := c.unusedBitRead) (b'' := idx)
  rw [BitVec.setWidth_eq] at h
  exact h.symm

theorem indexByte_toNat (c : Config) (ai : BitVec 1) (idx : BitVec 6) :
    (indexByte c ai idx).toNat = 128 * ai.toNat + 64 * c.unusedBitRead.toNat + idx.toNat := by
  rw [indexByte_eq_append, BitVec.toNat_append, BitVec.toNat_append, ← Nat.shiftLeft_add_eq_or_of_lt (BitVec.isLt _),
    ← Nat.shiftLeft_add_eq_or_of_lt (BitVec.isLt _), Nat.shiftLeft_eq, Nat.shiftLeft_eq]
  omega

/-- A write of an index register keeps bits 5:0 and bit 7 (R157, R161). -/
theorem indexFields_eq_ofNat (d : Byte) :
    d.extractLsb' 0 6 = BitVec.ofNat 6 (d.toNat % 64) ∧ d.extractLsb' 7 1 = BitVec.ofNat 1 (d.toNat / 128) := by
  constructor
  · apply BitVec.eq_of_toNat_eq
    simp
  · rw [BitVec.extractLsb', Nat.shiftRight_eq_div_pow]

/-! ### The obligations -/

/-- Settles O47: the byte is `statByte_toNat`, and the write is a single update. -/
theorem statAccess : Obligations.StatAccess := by
  unfold Obligations.StatAccess
  intro s d hf hres
  exact ⟨decode_readRegister .stat 0, decode_writeRegister .stat d,
    ⟨_, exec_running hf .readStat, (statByte_toNat _ hres).trans (congrArg _ (enc_toNat s.mode))⟩,
    exec_running hf (.writeStat d)⟩

/-- Settles O48: each read returns its field; LY stays below 153 by the bounds of the timing invariants. -/
theorem plainRegisterReads : Obligations.PlainRegisterReads := by
  unfold Obligations.PlainRegisterReads
  intro s x hf
  have hly (hi : s.TimingInv) : s.ly ≠ 153#8 := by
    by_cases hm : s.mode = .vblank
    · have := hi.vblankLine hm
      bv_omega
    · have := hi.visibleLine hm
      bv_omega
  exact ⟨⟨decode_readRegister .scy x, exec_running hf .readScy⟩, ⟨decode_readRegister .scx x, exec_running hf .readScx⟩,
    ⟨decode_readRegister .ly x, exec_running hf .readLy, hly⟩, ⟨decode_readRegister .lyc x, exec_running hf .readLyc⟩,
    ⟨decode_readRegister .bgp x, exec_running hf .readBgp⟩, ⟨decode_readRegister .obp0 x, exec_running hf .readObp0⟩,
    ⟨decode_readRegister .obp1 x, exec_running hf .readObp1⟩, ⟨decode_readRegister .wy x, exec_running hf .readWy⟩,
    ⟨decode_readRegister .wx x, exec_running hf .readWx⟩⟩

/-- Settles O49: the effect of each write is the update of its field. -/
theorem placeholderRegisterWrites : Obligations.PlaceholderRegisterWrites := by
  unfold Obligations.PlaceholderRegisterWrites
  intro s d hf
  exact ⟨⟨decode_writeRegister .obp0 d, exec_running hf (.writeObp0 d)⟩,
    ⟨decode_writeRegister .obp1 d, exec_running hf (.writeObp1 d)⟩,
    ⟨decode_writeRegister .wy d, exec_running hf (.writeWy d)⟩, ⟨decode_writeRegister .wx d, exec_running hf (.writeWx d)⟩⟩

/-- Settles O50: each write is the update of its field, and the STAT read after it compares LY with the new LYC. -/
theorem scrollCompareAndPaletteWrites : Obligations.ScrollCompareAndPaletteWrites := by
  unfold Obligations.ScrollCompareAndPaletteWrites
  intro s d hf hres
  refine ⟨⟨decode_writeRegister .scy d, exec_running hf (.writeScy d)⟩,
    ⟨decode_writeRegister .scx d, exec_running hf (.writeScx d)⟩,
    ⟨decode_writeRegister .bgp d, exec_running hf (.writeBgp d)⟩,
    ⟨decode_writeRegister .lyc d, exec_running hf (.writeLyc d)⟩,
    _, exec_running (s := { s with lyc := d }) hf .readStat, ?_⟩
  rw [bit_two_statByte _ (s := { s with lyc := d }) hres, beq_iff_eq]

/-- Settles O51: the effect of both writes is the identity. -/
theorem ignoredWrites : Obligations.IgnoredWrites := by
  unfold Obligations.IgnoredWrites
  intro s d hf
  exact ⟨⟨decode_writeRegister .ly d, exec_running hf (.writeLy d)⟩,
    ⟨decode_writeRegister .dma d, exec_running hf (.writeDma d)⟩, decode_readRegister .dma 0, exec_running hf .readDma⟩

/-- Settles O52: the byte is `vbkByte_toNat`; the write keeps the lowest bit, and the color mode decides what `bank` makes of it. -/
theorem vbkAccess : Obligations.VbkAccess := by
  unfold Obligations.VbkAccess
  intro s d hf
  refine ⟨decode_readRegister .vbk 0, decode_writeRegister .vbk d,
    ⟨_, exec_running hf .readVbk, vbkByte_toNat Config.given s⟩, _, exec_running hf (.writeVbk d), rfl, ?_, fun c => ⟨?_, ?_⟩⟩
  · simp [effect]
  · intro hc
    rw [bank, hc]
  · intro hc
    rw [bank, hc]

/-- Settles O53: the byte is `indexByte_toNat`, and a write stores the fields `indexFields_eq_ofNat`. -/
theorem paletteIndexAccess : Obligations.PaletteIndexAccess := by
  unfold Obligations.PaletteIndexAccess
  intro s d hf
  obtain ⟨hidx, hai⟩ := indexFields_eq_ofNat d
  refine ⟨⟨decode_readRegister .bcps 0, decode_readRegister .ocps 0, decode_writeRegister .bcps d,
      decode_writeRegister .ocps d⟩,
    ⟨_, exec_running hf .readBcps, indexByte_toNat _ _ _⟩, ⟨_, exec_running hf .readOcps, indexByte_toNat _ _ _⟩, ?_, ?_⟩
  · rw [exec_running hf, effect, hidx, hai]
  · rw [exec_running hf, effect, hidx, hai]

end Sys2Proof.Machine
end

section
/-!
The operations that reach a memory surface (43_bus_arbiter.md R126 to R131, R158 to R165): video memory and its banks, the
sprite table, the framebuffer at the display-off edge, the palette memories, and the accesses that reach none and fault.
-/

namespace Sys2Proof.Machine

/-! ### Video memory (R35, R126, R127) -/

theorem vramReadValue_locked {s : State} (hm : s.mode = .transfer) (hd : s.dmaActive = false) (c : Config) (a : Addr) :
    vramReadValue c a s = 0x00#8 := by
  simp [vramReadValue, vramReadLocked, hm, hd]

theorem vramReadValue_open {s : State} (h : s.mode ≠ .transfer ∨ s.dmaActive = true) (c : Config) (a : Addr) :
    vramReadValue c a s = (s.vram (bank c s)).read (vramIndex a) := by
  rcases h with h | h <;> simp [vramReadValue, vramReadLocked, h]

theorem vramWrite_locked {s : State} (he : bit s.lcdc 7 = true) (hm : s.mode = .transfer) (c : Config) (a : Addr) (d : Byte) :
    vramWrite c a d s = s := by
  simp [vramWrite, vramWriteLocked, State.displayEnabled, he, hm]

theorem vramWrite_open {s : State} (h : bit s.lcdc 7 = false ∨ s.mode ≠ .transfer) (c : Config) (a : Addr) (d : Byte) :
    vramWrite c a d s = s.setVram (bank c s) ((s.vram (bank c s)).write (vramIndex a) d) := by
  rcases h with h | h <;> simp [vramWrite, vramWriteLocked, State.displayEnabled, h]

/-- The bank is 1 exactly in the enhanced mode with VBK set (R35). -/
theorem bank_eq (c : Config) (s : State) : bank c s = if c.colorMode = .enhanced ∧ s.vbk = 1#1 then 1#1 else 0#1 := by
  cases hc : c.colorMode with
  | monochrome => simp [bank, hc]
  | enhanced => rcases BitVec.eq_zero_or_eq_one s.vbk with hv | hv <;> simp [bank, hc, hv]

theorem vram_bank (c : Config) (s : State) :
    s.vram (bank c s) = if c.colorMode = .enhanced ∧ s.vbk = 1#1 then s.vram1 else s.vram0 := by
  rw [bank_eq]
  split <;> rfl

theorem setVram_bank (c : Config) (s : State) (m : Memory) :
    s.setVram (bank c s) m =
      if c.colorMode = .enhanced ∧ s.vbk = 1#1 then { s with vram1 := m } else { s with vram0 := m } := by
  rw [bank_eq]
  split <;> rfl

theorem vram_wf {s : State} (h : s.MemoriesCanonical) (b : BitVec 1) : (s.vram b).wf := by
  unfold State.vram
  split
  · exact h.vram0.1
  · exact h.vram1.1

/-- Replacing the selected bank leaves the selection, the mode and the DMA input, and the bank reads as its replacement. -/
theorem setVram_bank_spec (c : Config) (s : State) (m : Memory) :
    let t := s.setVram (bank c s) m
    t.mode = s.mode ∧ t.dmaActive = s.dmaActive ∧ t.vram (bank c t) = m := by
  simp only [setVram_bank, vram_bank]
  split
  · exact ⟨rfl, rfl, rfl⟩
  · exact ⟨rfl, rfl, rfl⟩

/-- What a later read of the address written returns: the byte, or 0x00 where the read is locked out. -/
theorem vramReadValue_after_write {s : State} (hc : s.MemoriesCanonical) (h : bit s.lcdc 7 = false ∨ s.mode ≠ .transfer)
    (c : Config) (a : Addr) (d : Byte) :
    vramReadValue c a (vramWrite c a d s) = if s.mode = .transfer ∧ s.dmaActive = false then 0x00#8 else d := by
  obtain ⟨hm, hd, hbank⟩ := setVram_bank_spec c s ((s.vram (bank c s)).write (vramIndex a) d)
  rw [vramWrite_open h]
  split
  · next hl => exact vramReadValue_locked (hm.trans hl.1) (hd.trans hl.2) c a
  · next hl =>
    have hopen : s.mode ≠ .transfer ∨ s.dmaActive = true := by simpa [imp_iff_not_or] using hl
    rw [vramReadValue_open (by rwa [hm, hd]), hbank, Memory.read_write_same (vram_wf hc _)]

/-- The bytes of both banks after a write that is not locked out. -/
theorem vramWrite_banks {s : State} (hc : s.MemoriesCanonical) (h : bit s.lcdc 7 = false ∨ s.mode ≠ .transfer)
    (c : Config) (a : Addr) (d : Byte) :
    let t := vramWrite c a d s
    if c.colorMode = .enhanced ∧ s.vbk = 1#1 then
      t.vram0 = s.vram0 ∧ ∀ i, t.vram1.read i = if i = vramIndex a then d else s.vram1.read i
    else t.vram1 = s.vram1 ∧ ∀ i, t.vram0.read i = if i = vramIndex a then d else s.vram0.read i := by
  simp only [vramWrite_open h, setVram_bank, vram_bank]
  split
  · exact ⟨rfl, fun i => Memory.read_write hc.vram1.1 _ i d⟩
  · exact ⟨rfl, fun i => Memory.read_write hc.vram0.1 _ i d⟩

/-- Settles O44: each clause selects the locked or the open case of the read or the write; `vramWrite_banks` and
`vramReadValue_after_write` say what an open write leaves. -/
theorem vramAccess : Obligations.VramAccess := by
  unfold Obligations.VramAccess
  intro s a d hf hc ha
  have ht := targetOf_vram ha
  refine ⟨decode_read ht 0, decode_write ht d, fun hm hd => ?_, fun hopen => ?_, fun he hm => ?_, fun hopen => ?_⟩
  · rw [exec_running hf, effect, vramReadValue_locked hm hd, State.returnByte]
  · rw [exec_running hf, effect, vramReadValue_open hopen, vram_bank]
    rfl
  · rw [exec_running hf, effect, vramWrite_locked he hm]
  · have hrun : (vramWrite Config.given a d s).running := by rwa [vramWrite_frame]
    refine ⟨_, exec_running hf (.writeVram a d), vramWrite_frame _ a d s, vramWrite_banks hc hopen Config.given a d, ?_⟩
    rw [effect, exec_running hrun, effect, vramReadValue_after_write hc hopen, State.returnByte]

/-! ### The sprite table (R128, R129) -/

/-- Settles O45: the lockouts are decided by the mode, and an open write stores one byte. -/
theorem oamAccess : Obligations.OamAccess := by
  unfold Obligations.OamAccess
  intro s a d hf hc ha
  have ht := targetOf_oam ha
  refine ⟨decode_read ht 0, decode_write ht d, fun hm hd => ?_, fun hopen => ?_, fun he hm => ?_, fun hopen => ?_⟩
  · have hl : oamReadLocked s = true := by simpa [oamReadLocked, hd] using hm
    rw [exec_running hf, effect, oamReadValue, if_pos hl, State.returnByte]
  · have hl : ¬ oamReadLocked s = true := by rcases hopen with h | h | h <;> simp [oamReadLocked, h]
    rw [exec_running hf, effect, oamReadValue, if_neg hl]
    rfl
  · have hl : oamWriteLocked s = true := by simpa [oamWriteLocked, State.displayEnabled, he] using hm
    rw [exec_running hf, effect, oamWrite, if_pos hl]
  · have hl : ¬ oamWriteLocked s = true := by
      rcases hopen with h | h | h <;> simp [oamWriteLocked, State.displayEnabled, h]
    refine ⟨_, exec_running hf (.writeOam a d), oamWrite_frame a d s, fun i => ?_⟩
    rw [effect, oamWrite, if_neg hl]
    exact Memory.read_write hc.oam.1 _ i d

/-! ### LCDC and the display-off reset (R130, R131) -/

theorem framebufferView_filled {s : State} {v : Byte} (h : s.fb = Memory.filled fbSize v) :
    ∀ b ∈ framebufferView s, b = v := by
  intro b hb
  obtain ⟨i, hi, rfl⟩ := List.mem_map.1 hb
  rw [h, Memory.read_filled, if_pos (List.mem_range.1 hi)]

/-- Settles O46: the two cases of `writeLcdc_cases`; on the edge every framebuffer byte is the fill. -/
theorem lcdcAccess : Obligations.LcdcAccess := by
  unfold Obligations.LcdcAccess
  intro s d hf
  refine ⟨decode_readRegister .lcdc 0, decode_writeRegister .lcdc d, exec_running hf .readLcdc, fun hkeep => ?_,
    fun hon hoff => ?_⟩
  · rcases writeLcdc_cases d s with ⟨hon, hoff, _⟩ | ⟨_, hw⟩
    · simp [hon, hoff] at hkeep
    · rw [exec_running hf, effect, hw]
  · rcases writeLcdc_cases d s with ⟨_, _, hw⟩ | ⟨hno, _⟩
    · refine ⟨displayOff { s with lcdc := d }, by rw [exec_running hf, effect, hw], rfl, ?_, framebufferView_filled rfl⟩
      rw [framebufferView, List.length_map, List.length_range, fbSize]
    · exact absurd ⟨hon, hoff⟩ hno

/-! ### The palette data ports (R158, R159, R162, R163) -/

theorem nextIndex_eq (ai : BitVec 1) (idx : BitVec 6) :
    nextIndex ai idx = if ai = 1#1 then BitVec.ofNat 6 ((idx.toNat + 1) % 64) else idx := by
  have hwrap : idx + 1#6 = BitVec.ofNat 6 ((idx.toNat + 1) % 64) := by
    apply BitVec.eq_of_toNat_eq
    simp
  rw [nextIndex, hwrap]

theorem paletteWrite_locked {s : State} (h : s.mode = .transfer) (mem : Memory) (idx : BitVec 6) (d : Byte) :
    paletteWrite s mem idx d = mem := by
  simp [paletteWrite, paletteWriteLocked, h]

theorem read_paletteWrite_open {s : State} (h : s.mode ≠ .transfer) {mem : Memory} (hw : mem.wf) (idx : BitVec 6) (d : Byte)
    (i : Nat) : (paletteWrite s mem idx d).read i = if i = idx.toNat then d else mem.read i := by
  simp [paletteWrite, paletteWriteLocked, h, Memory.read_write hw]

/-- Settles O54: each port advances its index by `nextIndex`, and the mode decides what `paletteWrite` does. -/
theorem paletteDataAccess : Obligations.PaletteDataAccess := by
  unfold Obligations.PaletteDataAccess
  intro s d hf hc
  refine ⟨⟨decode_readRegister .bcpd 0, decode_readRegister .ocpd 0, decode_writeRegister .bcpd d,
      decode_writeRegister .ocpd d⟩, ?_, ?_,
    ⟨_, exec_running hf (.writeBcpd d), rfl, nextIndex_eq _ _, fun hm => paletteWrite_locked hm _ _ d,
      fun hm => read_paletteWrite_open hm hc.bgpal.1 _ d⟩,
    ⟨_, exec_running hf (.writeOcpd d), rfl, nextIndex_eq _ _, fun hm => paletteWrite_locked hm _ _ d,
      fun hm => read_paletteWrite_open hm hc.objpal.1 _ d⟩⟩
  · rw [exec_running hf, effect, nextIndex_eq, State.returnByte]
  · rw [exec_running hf, effect, nextIndex_eq, State.returnByte]

/-! ### Unmapped addresses (R164, R165) -/

/-- Settles O55: the decoder's last target, and `raise` as the whole effect. -/
theorem unmappedAccessFaults : Obligations.UnmappedAccessFaults := by
  unfold Obligations.UnmappedAccessFaults
  intro s a d hf ha
  have ht := targetOf_unmapped ha
  exact ⟨decode_read ht 0, exec_running hf (.readUnmapped a), decode_write ht d, exec_running hf (.writeUnmapped a d)⟩

end Sys2Proof.Machine
end

section
/-!
The operations that use no bus (44_host_interface.md R166 to R168): each has one word, its `op` over a zero address, and the
effect of each of the three is the update of one field.
-/

namespace Sys2Proof

/-- The converse of the last case of `select_ok`: the one word of a non-bus operation selects it (R68, R69). -/
theorem select_nonBus : ∀ m ∈ [Mnemonic.tick, .ackVblank, .ackStat, .setDma],
    select (m.op ++ 0#16 : ReqWord) = .ok m := by decide

/-- What the number beside the word of a non-bus operation means is left to `assemble`. -/
theorem decode_nonBus {m : Mnemonic} (hm : m ∈ [Mnemonic.tick, .ackVblank, .ackStat, .setDma]) (n : Nat) :
    decode ⟨(m.op ++ 0#16 : ReqWord), n⟩ = assemble (m.op ++ 0#16) n m := by
  simp only [decode, select_nonBus m hm]

theorem assemble_setDma (w : ReqWord) (b : Bool) : assemble w b.toNat .setDma = .ok (.setDma b) := by
  cases b <;> rfl

namespace Machine

/-- Settles O56: the words by `decode_nonBus`, and in a running state each operation is its effect. -/
theorem hostOperations : Obligations.HostOperations := by
  unfold Obligations.HostOperations
  intro s b hf
  have hdma : decode ⟨0x50000#19, b.toNat⟩ = .ok (.setDma b) :=
    (decode_nonBus (m := .setDma) (by decide) b.toNat).trans (assemble_setDma _ b)
  exact ⟨decode_nonBus (m := .ackVblank) (by decide) 0, decode_nonBus (m := .ackStat) (by decide) 0, hdma,
    exec_running hf .ackVblank, exec_running hf .ackStat, exec_running hf (.setDma b)⟩

end Machine
end Sys2Proof
end

section
/-!
The power-on state (70_reset_and_hazards.md R188): what each register read answers in it, whatever the configuration says of
the unused bits, and the timing invariants of R49.
-/

namespace Sys2Proof.Machine

/-- The power-on state is running, so a read whose whole effect is the byte `v` answers it at once. -/
theorem exec_reset_read {i : Instr} {v : Byte} (h : effect i State.reset = State.reset.returnByte v) :
    exec i State.reset = .next { State.reset with readByte := some v } :=
  (exec_running rfl i).trans (congrArg Host.Outcome.next h)

/-! ### The registers with unused bits (R23) -/

/-- At power-on LY and LYC agree, so the coincidence bit reads 1 beside the unused bit. -/
theorem statByte_reset (c : Config) :
    statByte c State.reset = if c.unusedBitRead = 1#1 then 0x84#8 else 0x04#8 := by
  have hbits : ∀ u : BitVec 1, 0#8 ||| statusBits u true 0#2 = if u = 1#1 then 0x84#8 else 0x04#8 := by decide
  exact (statByte_eq c State.reset).trans (hbits c.unusedBitRead)

theorem vbkByte_reset (c : Config) :
    vbkByte c State.reset = if c.unusedBitRead = 1#1 then 0xFE#8 else 0x00#8 := by
  have hbits : ∀ u : BitVec 1,
      (u.setWidth 8 * 0xFE#8) ||| (0#1).setWidth 8 = if u = 1#1 then 0xFE#8 else 0x00#8 := by decide
  exact hbits c.unusedBitRead

/-- BCPS and OCPS alike: both hold no auto-increment and index 0 at power-on. -/
theorem indexByte_zero (c : Config) :
    indexByte c 0#1 0#6 = if c.unusedBitRead = 1#1 then 0x40#8 else 0x00#8 := by
  have hbits : ∀ u : BitVec 1, (0#1 ++ u ++ 0#6 : Byte) = if u = 1#1 then 0x40#8 else 0x00#8 := by decide
  exact (indexByte_eq_append c 0#1 0#6).trans (hbits c.unusedBitRead)

/-! ### The invariants of R49 -/

/-- HBlank at clock 0 of line 0, with an empty FIFO: the Transfer and VBlank items ask nothing. -/
theorem reset_timing : State.reset.TimingInv where
  disabled _ := ⟨rfl, rfl⟩
  transfer h := nomatch h
  fifo := Nat.zero_le 16
  discards := Nat.zero_le 7
  vblankLine h := nomatch h
  visibleLine _ := by decide
  clock := by decide

/-! ### The obligation -/

/-- Settles O9: the fields are those of `State.reset`, every memory is empty and reads as unlisted, and each read is its effect on
a running state (a data port without auto-increment keeps its index); the four registers with unused bits by their lemmas. -/
theorem powerOnState : Obligations.PowerOnState := by
  unfold Obligations.PowerOnState
  intro s reads
  have hfield {i : Instr} {v : Byte} (h : effect i s = s.returnByte v) : reads i v := exec_reset_read h
  refine ⟨by decide, by decide, by decide, by decide, by decide, fun a => ?memories, ?plain, ?unused, reset_timing⟩
  case memories => and_intros <;> exact Memory.read_nil a
  case plain => and_intros <;> exact hfield rfl
  case unused =>
    have hindex := congrArg s.returnByte (indexByte_zero Config.given)
    exact ⟨hfield (congrArg s.returnByte (statByte_reset _)), hfield (congrArg s.returnByte (vbkByte_reset _)), hfield hindex,
      hfield hindex⟩

end Sys2Proof.Machine
end

section
/-!
The decoder and the encoder are inverse to each other (30_encoding.md R67 to R73). A bus operation is the one its address
selects, and a request is accepted exactly when its word selects a mnemonic and its operand has the type of that mnemonic.
-/

namespace Sys2Proof

/-! ### Decoding what was encoded -/

/-- Settles O1: the address of a well-formed bus operation selects its target, so that its word decodes to it with the operand
beside it; the word of a non-bus operation is its `op` over a zero address. -/
theorem decodeEncodeRoundTrip : Obligations.DecodeEncodeRoundTrip := by
  unfold Obligations.DecodeEncodeRoundTrip
  intro i h
  cases i with
  | readVram a => exact decode_read (targetOf_vram h) 0
  | writeVram a d => exact decode_write (targetOf_vram h) d
  | readOam a => exact decode_read (targetOf_oam h) 0
  | writeOam a d => exact decode_write (targetOf_oam h) d
  | readUnmapped a => exact decode_read (targetOf_unmapped h) 0
  | writeUnmapped a d => exact decode_write (targetOf_unmapped h) d
  | tick n => exact decode_nonBus (m := .tick) (by decide) n
  | ackVblank => exact decode_nonBus (m := .ackVblank) (by decide) 0
  | ackStat => exact decode_nonBus (m := .ackStat) (by decide) 0
  | setDma b => exact (decode_nonBus (m := .setDma) (by decide) b.toNat).trans (assemble_setDma _ b)
  | readLcdc => exact decode_readRegister .lcdc 0
  | readStat => exact decode_readRegister .stat 0
  | readScy => exact decode_readRegister .scy 0
  | readScx => exact decode_readRegister .scx 0
  | readLy => exact decode_readRegister .ly 0
  | readLyc => exact decode_readRegister .lyc 0
  | readDma => exact decode_readRegister .dma 0
  | readBgp => exact decode_readRegister .bgp 0
  | readObp0 => exact decode_readRegister .obp0 0
  | readObp1 => exact decode_readRegister .obp1 0
  | readWy => exact decode_readRegister .wy 0
  | readWx => exact decode_readRegister .wx 0
  | readVbk => exact decode_readRegister .vbk 0
  | readBcps => exact decode_readRegister .bcps 0
  | readBcpd => exact decode_readRegister .bcpd 0
  | readOcps => exact decode_readRegister .ocps 0
  | readOcpd => exact decode_readRegister .ocpd 0
  | writeLcdc d => exact decode_writeRegister .lcdc d
  | writeStat d => exact decode_writeRegister .stat d
  | writeScy d => exact decode_writeRegister .scy d
  | writeScx d => exact decode_writeRegister .scx d
  | writeLy d => exact decode_writeRegister .ly d
  | writeLyc d => exact decode_writeRegister .lyc d
  | writeDma d => exact decode_writeRegister .dma d
  | writeBgp d => exact decode_writeRegister .bgp d
  | writeObp0 d => exact decode_writeRegister .obp0 d
  | writeObp1 d => exact decode_writeRegister .obp1 d
  | writeWy d => exact decode_writeRegister .wy d
  | writeWx d => exact decode_writeRegister .wx d
  | writeVbk d => exact decode_writeRegister .vbk d
  | writeBcps d => exact decode_writeRegister .bcps d
  | writeBcpd d => exact decode_writeRegister .bcpd d
  | writeOcps d => exact decode_writeRegister .ocps d
  | writeOcpd d => exact decode_writeRegister .ocpd d

/-! ### Encoding what was decoded -/

/-- The READ that an address selects belongs to it: it is well formed, and its request is the READ word of the address. -/
theorem readInstr_targetOf (a : Addr) :
    (readInstr a (targetOf a)).wellFormed = true ∧ encode (readInstr a (targetOf a)) = ⟨0b000#3 ++ a, 0⟩ := by
  rcases targetOf_cases a with ⟨r, rfl, ht⟩ | ⟨hw, ht⟩ | ⟨hw, ht⟩ | ⟨hw, ht⟩ <;> rw [ht]
  · cases r <;> exact ⟨rfl, rfl⟩
  · exact ⟨hw, rfl⟩
  · exact ⟨hw, rfl⟩
  · exact ⟨hw, rfl⟩

/-- The same of the WRITE that an address selects, with its byte beside the word. -/
theorem writeInstr_targetOf (a : Addr) (d : Byte) :
    (writeInstr a d (targetOf a)).wellFormed = true ∧
      encode (writeInstr a d (targetOf a)) = ⟨0b001#3 ++ a, d.toNat⟩ := by
  rcases targetOf_cases a with ⟨r, rfl, ht⟩ | ⟨hw, ht⟩ | ⟨hw, ht⟩ | ⟨hw, ht⟩ <;> rw [ht]
  · cases r <;> exact ⟨rfl, rfl⟩
  · exact ⟨hw, rfl⟩
  · exact ⟨hw, rfl⟩
  · exact ⟨hw, rfl⟩

/-- A word is its address under the `op` it is known to have. -/
theorem word_of_opField {w : ReqWord} {op : BitVec 3} (h : opField w = op) : op ++ addrField w = w := by
  rw [← h, opField_append_addrField]

/-- What the decoder accepts, kind by kind (R68 to R71): a READ word, a WRITE word with a byte, and the one word of each
non-bus operation, SET_DMA with a bit. -/
theorem decode_ok_cases {r : Request} {i : Instr} (h : decode r = .ok i) :
    (opField r.word = 0b000#3 ∧ i = readInstr (addrField r.word) (targetOf (addrField r.word))) ∨
    (opField r.word = 0b001#3 ∧ r.operand < 256 ∧
      i = writeInstr (addrField r.word) (BitVec.ofNat 8 r.operand) (targetOf (addrField r.word))) ∨
    (r.word = 0b010#3 ++ 0#16 ∧ i = .tick r.operand) ∨ (r.word = 0b011#3 ++ 0#16 ∧ i = .ackVblank) ∨
    (r.word = 0b100#3 ++ 0#16 ∧ i = .ackStat) ∨
    (r.word = 0b101#3 ++ 0#16 ∧ r.operand < 2 ∧ i = .setDma (r.operand == 1)) := by
  have hsel := select_of_decode h
  simp only [decode, hsel] at h
  rcases select_ok hsel with ⟨hop, hm⟩ | ⟨hop, hm⟩ | ⟨hm, hw⟩
  · rw [hm] at h
    exact .inl ⟨hop, (Except.ok.inj h).symm⟩
  · rw [hm, assemble] at h
    split at h
    · next hd => exact .inr (.inl ⟨hop, hd, (Except.ok.inj h).symm⟩)
    · cases h
  · simp only [List.mem_cons, List.not_mem_nil, or_false] at hm
    rcases hm with hm | hm | hm | hm <;> rw [hm] at h hw
    · exact .inr (.inr (.inl ⟨hw, (Except.ok.inj h).symm⟩))
    · exact .inr (.inr (.inr (.inl ⟨hw, (Except.ok.inj h).symm⟩)))
    · exact .inr (.inr (.inr (.inr (.inl ⟨hw, (Except.ok.inj h).symm⟩))))
    · rw [assemble] at h
      split at h
      · next hb => exact .inr (.inr (.inr (.inr (.inr ⟨hw, hb, (Except.ok.inj h).symm⟩))))
      · cases h

/-- A bit beside the word of SET_DMA is the number of the Boolean it decodes to. -/
theorem toNat_beq_one {n : Nat} (h : n < 2) : (n == 1).toNat = n := by
  obtain rfl | rfl : n = 0 ∨ n = 1 := by omega
  · rfl
  · rfl

/-- Settles O2: kind by kind, the operation decoded is the one whose request was taken apart. -/
theorem encodeDecodeRoundTrip : Obligations.EncodeDecodeRoundTrip := by
  unfold Obligations.EncodeDecodeRoundTrip
  intro r i h
  rcases decode_ok_cases h with ⟨hop, rfl⟩ | ⟨hop, hd, rfl⟩ | ⟨hw, rfl⟩ | ⟨hw, rfl⟩ | ⟨hw, rfl⟩ | ⟨hw, hb, rfl⟩
  · obtain ⟨hwf, henc⟩ := readInstr_targetOf (addrField r.word)
    refine ⟨hwf, by rw [henc, word_of_opField hop], fun hnames => ?_⟩
    rw [readInstr_mnemonic] at hnames
    cases hnames
  · obtain ⟨hwf, henc⟩ := writeInstr_targetOf (addrField r.word) (BitVec.ofNat 8 r.operand)
    refine ⟨hwf, by rw [henc, word_of_opField hop], fun _ => ?_⟩
    rw [henc, BitVec.toNat_ofNat, Nat.mod_eq_of_lt hd]
  · exact ⟨rfl, hw.symm, fun _ => rfl⟩
  · exact ⟨rfl, hw.symm, fun hnames => nomatch hnames⟩
  · exact ⟨rfl, hw.symm, fun hnames => nomatch hnames⟩
  · exact ⟨rfl, hw.symm, fun _ => toNat_beq_one hb⟩

/-! ### Refusals (R69, R73) -/

/-- The three conditions of R69. -/
def MeetsConditions (r : Request) : Prop :=
  (opField r.word).toNat ≤ 5 ∧ (1 < (opField r.word).toNat → addrField r.word = 0#16) ∧
    ((opField r.word).toNat = 1 → r.operand < 256) ∧ ((opField r.word).toNat = 5 → r.operand < 2)

/-- Of an accepted request each kind fixes the `op`, and with it the conditions that bind. -/
theorem meetsConditions_of_decode {r : Request} {i : Instr} (h : decode r = .ok i) : MeetsConditions r := by
  unfold MeetsConditions
  rcases decode_ok_cases h with ⟨hop, _⟩ | ⟨hop, hd, _⟩ | ⟨hw, _⟩ | ⟨hw, _⟩ | ⟨hw, _⟩ | ⟨hw, hb, _⟩
  · simp [hop]
  · simp [hop, hd]
  · rw [hw, opField_append, addrField_append]; simp
  · rw [hw, opField_append, addrField_append]; simp
  · rw [hw, opField_append, addrField_append]; simp
  · rw [hw, opField_append, addrField_append]; simp [hb]

/-- A non-bus word over a zero address is left to `assemble`. -/
theorem decode_of_nonBus {r : Request} {m : Mnemonic} (hm : m ∈ [Mnemonic.tick, .ackVblank, .ackStat, .setDma])
    (hop : (opField r.word).toNat = m.op.toNat) (ha : addrField r.word = 0#16) :
    decode r = assemble r.word r.operand m := by
  have hw : r.word = m.op ++ 0#16 := by
    rw [← word_of_opField (BitVec.eq_of_toNat_eq hop), ha]
  have h := decode_nonBus hm r.operand
  rwa [← hw] at h

/-- Under the three conditions each kind of word decodes. -/
theorem decode_of_meetsConditions {r : Request} (h : MeetsConditions r) : ∃ i, decode r = .ok i := by
  obtain ⟨hop, ha, hd, hb⟩ := h
  obtain h0 | h1 | h2 | h3 | h4 | h5 : (opField r.word).toNat = 0 ∨ (opField r.word).toNat = 1 ∨
      (opField r.word).toNat = 2 ∨ (opField r.word).toNat = 3 ∨ (opField r.word).toNat = 4 ∨ (opField r.word).toNat = 5 := by
    omega
  · exact ⟨_, by rw [decode, select_read_target h0 rfl]; rfl⟩
  · exact ⟨_, by rw [decode, select_write_target h1 rfl]; exact if_pos (hd h1)⟩
  · exact ⟨_, decode_of_nonBus (m := .tick) (by decide) h2 (ha (by omega))⟩
  · exact ⟨_, decode_of_nonBus (m := .ackVblank) (by decide) h3 (ha (by omega))⟩
  · exact ⟨_, decode_of_nonBus (m := .ackStat) (by decide) h4 (ha (by omega))⟩
  · exact ⟨_, (decode_of_nonBus (m := .setDma) (by decide) h5 (ha (by omega))).trans (if_pos (hb h5))⟩

theorem decode_error_iff (r : Request) : (∃ e, decode r = .error e) ↔ ¬ MeetsConditions r := by
  constructor
  · rintro ⟨e, he⟩ h
    obtain ⟨i, hi⟩ := decode_of_meetsConditions h
    rw [he] at hi
    cases hi
  · intro h
    cases hd : decode r with
    | error e => exact ⟨e, rfl⟩
    | ok i => exact absurd (meetsConditions_of_decode hd) h

namespace Machine

/-- Settles O4: `decode_error_iff` for the decoder; the step hands the decoder's error on. -/
theorem malformedRequestsAreRefused : Obligations.MalformedRequestsAreRefused := by
  unfold Obligations.MalformedRequestsAreRefused
  refine ⟨decode_error_iff, fun s r rest e hf hq he => ?_⟩
  simp only [step, hf, takeRequest_some hq, he]

end Machine
end Sys2Proof
end

section
/-!
What each operation leaves unchanged (10_state.md R16, R27; 20_memory.md R50, R60; 40_scheduler.md R78). Of TICK the frame is
kept by everything the scheduler does; of the other operations it is read off their effect.
-/

namespace Sys2Proof.Machine

/-! ### The transitions as updates of the scheduler's state -/

theorem enterHBlank_eq (s : State) :
    enterHBlank s = { s with mode := .hblank, modeClock := 0, statIrq := s.statIrq || bit s.statSel 3 } :=
  statEvent_eq _ 3

/-- The end of HBlank as one update, on every line (R87 to R89, R91). -/
theorem endHBlank_update (s : State) :
    endHBlank s =
      { s with
        mode := if 143#8 < s.ly + 1#8 then .vblank else .search
        modeClock := 0
        ly := s.ly + 1#8
        vblankIrq := s.vblankIrq || decide (143#8 < s.ly + 1#8)
        statIrq := s.statIrq || (s.ly + 1#8 == s.lyc && bit s.statSel 6) ||
          (if 143#8 < s.ly + 1#8 then bit s.statSel 4 else bit s.statSel 5) } := by
  rcases endHBlank_cases s with ⟨hlast, he⟩ | ⟨hvisible, he⟩
  · rw [he, startLine_eq, enterVBlank, statEvent_eq]
    simp [hlast]
  · rw [he, startLine_eq, enterSearch, statEvent_eq]
    simp [hvisible]

/-- The end of a VBlank slot as one update, on every line (R90, R91). -/
theorem vblankSlotEnd_update (s : State) :
    vblankSlotEnd s =
      { s with
        mode := if s.ly = 0#8 then .search else s.mode
        modeClock := 0
        ly := if s.ly = 0#8 ∨ s.ly + 1#8 = 153#8 then 0#8 else s.ly + 1#8
        statIrq := s.statIrq ||
          if s.ly = 0#8 then bit s.statSel 5
          else (if s.ly + 1#8 = 153#8 then 0#8 else s.ly + 1#8) == s.lyc && bit s.statSel 6 } := by
  rcases vblankSlotEnd_cases s with ⟨h0, h⟩ | ⟨h0, h153, h⟩ | ⟨h0, h153, h⟩
  · rw [h, enterSearch, statEvent_eq]
    simp [h0]
  · rw [h, startLine_eq]
    simp [h0, h153]
  · rw [h, startLine_eq]
    simp [h0, h153]

/-! ### The frame of TICK -/

/-- `s` with everything that a TICK may change taken from `t`. -/
def State.withScheduleOf (s t : State) : State :=
  { s with
    mode := t.mode, modeClock := t.modeClock, ly := t.ly, cursor := t.cursor, borrowed := t.borrowed
    fstate := t.fstate, fcol := t.fcol, tileIdx := t.tileIdx, lo := t.lo, hi := t.hi, fifo := t.fifo
    discard := t.discard, fb := t.fb, vblankIrq := t.vblankIrq, statIrq := t.statIrq, fault := t.fault }

/-- Everything the scheduler does stays inside that frame. -/
theorem frame_keptByScheduler (c : Config) (s : State) : KeptByScheduler c fun t => ∃ u, t = s.withScheduleOf u where
  clock := by
    rintro _ k ⟨u, rfl⟩
    exact ⟨{ u with modeClock := k }, rfl⟩
  pseudoCycle := by
    rintro _ ⟨u, rfl⟩
    exact ⟨pseudoCycle c (s.withScheduleOf u), by rw [pseudoCycle_frame]; rfl⟩
  enterTransfer := by
    rintro _ ⟨u, rfl⟩
    exact ⟨enterTransfer (s.withScheduleOf u), rfl⟩
  enterHBlank := by
    rintro _ ⟨u, rfl⟩
    exact ⟨enterHBlank (s.withScheduleOf u), by rw [enterHBlank_eq]; rfl⟩
  endHBlank := by
    rintro _ ⟨u, rfl⟩
    exact ⟨endHBlank (s.withScheduleOf u), by rw [endHBlank_update]; rfl⟩
  vblankSlotEnd := by
    rintro _ ⟨u, rfl⟩
    exact ⟨vblankSlotEnd (s.withScheduleOf u), by rw [vblankSlotEnd_update]; rfl⟩

/-- A member of the frame is its own schedule on the state it started from. -/
theorem eq_withScheduleOf {s t : State} (h : ∃ u, t = s.withScheduleOf u) : t = s.withScheduleOf t := by
  obtain ⟨u, rfl⟩ := h
  rfl

theorem tick_frame (c : Config) (n : Nat) (s : State) : tick c n s = s.withScheduleOf (tick c n s) :=
  eq_withScheduleOf ((frame_keptByScheduler c s).tick n ⟨s, rfl⟩)

theorem cycle_frame (c : Config) (s : State) : cycle c s = s.withScheduleOf (cycle c s) :=
  eq_withScheduleOf ((frame_keptByScheduler c s).modeHandler 1 ⟨s, rfl⟩)

/-- Settles O18: `tick_frame`. -/
theorem tickFrame : Obligations.TickFrame := by
  unfold Obligations.TickFrame
  intro n s t h
  obtain ⟨_, rfl⟩ := exec_next h
  exact tick_frame Config.given n s

/-! ### The frames of the other operations -/

/-- An operation that does not write a memory surface leaves all six. -/
theorem effect_memory_cases (i : Instr) (s : State) :
    (∃ a d, i = .writeVram a d) ∨ (∃ a d, i = .writeOam a d) ∨ (∃ d, i = .writeBcpd d) ∨ (∃ d, i = .writeOcpd d) ∨
      (∃ n, i = .tick n) ∨ (∃ d, i = .writeLcdc d) ∨
      effect i s =
        { effect i s with
          vram0 := s.vram0, vram1 := s.vram1, oam := s.oam, bgpal := s.bgpal, objpal := s.objpal, fb := s.fb } := by
  cases i with
  | writeVram a d => exact .inl ⟨a, d, rfl⟩
  | writeOam a d => exact .inr (.inl ⟨a, d, rfl⟩)
  | writeBcpd d => exact .inr (.inr (.inl ⟨d, rfl⟩))
  | writeOcpd d => exact .inr (.inr (.inr (.inl ⟨d, rfl⟩)))
  | tick n => exact .inr (.inr (.inr (.inr (.inl ⟨n, rfl⟩))))
  | writeLcdc d => exact .inr (.inr (.inr (.inr (.inr (.inl ⟨d, rfl⟩)))))
  | _ => exact .inr (.inr (.inr (.inr (.inr (.inr rfl)))))

/-- Settles O17: each writer by its own frame, and every other operation leaves all surfaces. -/
theorem memorySurfaceWriters : Obligations.MemorySurfaceWriters := by
  unfold Obligations.MemorySurfaceWriters
  intro i s t h
  obtain ⟨_, rfl⟩ := exec_next h
  rcases effect_memory_cases i s with ⟨a, d, rfl⟩ | ⟨a, d, rfl⟩ | ⟨d, rfl⟩ | ⟨d, rfl⟩ | ⟨n, rfl⟩ | ⟨d, rfl⟩ | hsame
  · rw [effect, vramWrite_frame]
    simp
  · rw [effect, oamWrite_frame]
    simp
  · simp [effect]
  · simp [effect]
  · rw [effect, tick_frame]
    simp [State.withScheduleOf]
  · rcases writeLcdc_cases d s with ⟨hon, hoff, hw⟩ | ⟨_, hw⟩ <;> rw [effect, hw]
    · simp [hon, hoff]
    · simp
  · rw [hsame]
    simp

/-- Settles O19: the effect of each READ is the byte it returns, an index moved by a data port, or a fault raised. -/
theorem readsHaveNoOtherSideEffect : Obligations.ReadsHaveNoOtherSideEffect := by
  unfold Obligations.ReadsHaveNoOtherSideEffect
  intro i tgt s t hm h
  obtain ⟨hf, rfl⟩ := exec_next h
  cases s
  cases hf
  cases i <;> cases hm <;> rfl

/-- Only WRITE_STAT stores a STAT byte, and it masks it (R133). -/
theorem effect_statSel_cases (i : Instr) (s : State) :
    (effect i s).statSel = s.statSel ∨ ∃ d, (effect i s).statSel = d &&& 0x78#8 := by
  cases i with
  | writeStat d => exact .inr ⟨d, rfl⟩
  | tick n => rw [effect, tick_frame]; exact .inl rfl
  | writeVram a d => rw [effect, vramWrite_frame]; exact .inl rfl
  | writeOam a d => rw [effect, oamWrite_frame]; exact .inl rfl
  | writeLcdc d =>
    rcases writeLcdc_cases d s with ⟨_, _, hw⟩ | ⟨_, hw⟩ <;> rw [effect, hw] <;> exact .inl rfl
  | _ => exact .inl rfl

/-- A property that taking a request keeps, and every well-formed operation on a running state, is kept by every step. -/
theorem step_keeps {P : State → Prop} (htake : ∀ s rest, P s → P { s with requests := rest })
    (heffect : ∀ i s, i.wellFormed = true → s.fault = none → P s → P (effect i s)) {s t : State} (hp : P s)
    (h : step s = .next t) : P t := by
  obtain ⟨_, ⟨_, rfl⟩ | ⟨r, rest, i, _, hdecode, hexec⟩⟩ := step_cases h
  · exact hp
  · obtain ⟨hf, rfl⟩ := exec_next hexec
    exact heffect i _ (encodeDecodeRoundTrip r i hdecode).1 hf (htake s rest hp)

/-- Settles O14: the mask 0x78 of a write leaves no bit of 0x87, and every other operation leaves the byte. -/
theorem stepKeepsReservedStatBitsClear : Obligations.StepKeepsReservedStatBitsClear := by
  unfold Obligations.StepKeepsReservedStatBitsClear
  intro s t
  refine step_keeps (fun _ _ h => h) fun i s _ _ hres => ?_
  rcases effect_statSel_cases i s with hkept | ⟨d, hwrite⟩
  · rwa [State.statSelReserved, hkept]
  · rw [State.statSelReserved, hwrite, BitVec.and_assoc]
    exact BitVec.and_zero

end Sys2Proof.Machine
end

section
/-!
The timing invariants of R49 (10_state.md section 8). Of TICK they are kept cycle by cycle: a cycle advances a clock, runs the
pipeline, or takes one of the four transitions. The induction over cycles is packaged for every further invariant.
-/

namespace Sys2Proof.Machine

/-! ### One cycle, case by case -/

/-- A cycle of a timed mode advances the clock below the mode's length, or reaches it and takes the transition (R80). -/
theorem timed_cycle_cases {c : Config} {len : Nat} {tr : State → State} {s : State}
    (h : modeHandler c 1 s = timedHandler len tr 1 s) (hl : s.modeClock < len) :
    (s.modeClock + 1 < len ∧ cycle c s = { s with modeClock := s.modeClock + 1 }) ∨
      (s.modeClock + 1 = len ∧ cycle c s = tr { s with modeClock := len }) := by
  by_cases hw : s.modeClock + 1 < len
  · exact .inl ⟨hw, by rw [cycle, h, timedHandler_within hw]⟩
  · exact .inr ⟨by omega, by rw [cycle, h, timedHandler_reach (by omega) (by omega)]⟩

/-- Everything one cycle can do to a state whose clock is in range (R81 to R84). -/
theorem cycle_cases (c : Config) {s : State} (hc : s.clockInRange) :
    (s.mode = .transfer ∧ cycle c s = transferCycle c s) ∨
    (s.mode ≠ .transfer ∧ ({ s with modeClock := s.modeClock + 1 } : State).clockInRange ∧
      cycle c s = { s with modeClock := s.modeClock + 1 }) ∨
    (s.mode = .search ∧ s.modeClock + 1 = searchLength ∧ cycle c s = enterTransfer { s with modeClock := searchLength }) ∨
    (s.mode = .hblank ∧ s.modeClock + 1 = hblankLength s ∧ cycle c s = endHBlank { s with modeClock := hblankLength s }) ∨
    (s.mode = .vblank ∧ s.modeClock + 1 = slotLength ∧ cycle c s = vblankSlotEnd { s with modeClock := slotLength }) := by
  obtain ⟨hsearch, hhblank, hvblank⟩ := hc
  obtain ⟨m, hm⟩ : ∃ m, s.mode = m := ⟨_, rfl⟩
  cases m with
  | transfer => exact .inl ⟨hm, cycle_transfer c hm⟩
  | search =>
    rcases timed_cycle_cases (modeHandler_search c 1 hm) (hsearch hm) with ⟨hw, h⟩ | ⟨hw, h⟩
    · exact .inr (.inl ⟨by simp [hm], ⟨fun _ => hw, by simp [hm], by simp [hm]⟩, h⟩)
    · exact .inr (.inr (.inl ⟨hm, hw, h⟩))
  | hblank =>
    rcases timed_cycle_cases (modeHandler_hblank c 1 hm) (hhblank hm) with ⟨hw, h⟩ | ⟨hw, h⟩
    · exact .inr (.inl ⟨by simp [hm], ⟨by simp [hm], fun _ => hw, by simp [hm]⟩, h⟩)
    · exact .inr (.inr (.inr (.inl ⟨hm, hw, h⟩)))
  | vblank =>
    rcases timed_cycle_cases (modeHandler_vblank c 1 hm) (hvblank hm) with ⟨hw, h⟩ | ⟨hw, h⟩
    · exact .inr (.inl ⟨by simp [hm], ⟨by simp [hm], by simp [hm], fun _ => hw⟩, h⟩)
    · exact .inr (.inr (.inr (.inr ⟨hm, hw, h⟩)))

/-- The end of HBlank leaves everything but the scheduler's state and the latches, and does not enter Transfer. -/
theorem endHBlank_frame (s : State) :
    (endHBlank s).mode ≠ .transfer ∧
      endHBlank s =
        { s with
          mode := (endHBlank s).mode, modeClock := (endHBlank s).modeClock, ly := (endHBlank s).ly
          vblankIrq := (endHBlank s).vblankIrq, statIrq := (endHBlank s).statIrq } := by
  rw [endHBlank_update]
  exact ⟨by split <;> simp, rfl⟩

/-- The same of the end of a VBlank slot. -/
theorem vblankSlotEnd_frame {s : State} (hm : s.mode ≠ .transfer) :
    (vblankSlotEnd s).mode ≠ .transfer ∧
      vblankSlotEnd s =
        { s with
          mode := (vblankSlotEnd s).mode, modeClock := (vblankSlotEnd s).modeClock, ly := (vblankSlotEnd s).ly
          vblankIrq := (vblankSlotEnd s).vblankIrq, statIrq := (vblankSlotEnd s).statIrq } := by
  rw [vblankSlotEnd_update]
  exact ⟨by split <;> simp [hm], rfl⟩

/-- What a cycle is to the pipeline: a cycle of Transfer, the entry of Transfer, or nothing. -/
theorem cycle_pipeline_cases (c : Config) {s : State} (hc : s.clockInRange) :
    (s.mode = .transfer ∧ cycle c s = transferCycle c s) ∨
    (s.mode = .search ∧ cycle c s = enterTransfer { s with modeClock := searchLength }) ∨
    (s.mode ≠ .transfer ∧ (cycle c s).mode ≠ .transfer ∧
      cycle c s =
        { s with
          mode := (cycle c s).mode, modeClock := (cycle c s).modeClock, ly := (cycle c s).ly
          vblankIrq := (cycle c s).vblankIrq, statIrq := (cycle c s).statIrq }) := by
  rcases cycle_cases c hc with ⟨hm, h⟩ | ⟨hm, _, h⟩ | ⟨hm, _, h⟩ | ⟨hm, _, h⟩ | ⟨hm, _, h⟩
  · exact .inl ⟨hm, h⟩
  · exact .inr (.inr ⟨hm, by rw [h]; exact ⟨hm, rfl⟩⟩)
  · exact .inr (.inl ⟨hm, h⟩)
  · have hframe := endHBlank_frame { s with modeClock := hblankLength s }
    exact .inr (.inr ⟨by simp [hm], by rw [h]; exact hframe⟩)
  · have hframe := vblankSlotEnd_frame (s := { s with modeClock := slotLength }) (by simp [hm])
    exact .inr (.inr ⟨by simp [hm], by rw [h]; exact hframe⟩)

/-! ### What a pseudo-cycle does to the FIFO and the cursor -/

theorem tilePixels_length (lo hi : Byte) : (tilePixels lo hi).length = 8 := (planesCombineIntoPixels lo hi).1

/-- A fetcher step touches the FIFO only in a commit that finds room (R109). -/
theorem fetcherStep_fifo (s : State) :
    (fetcherStep s).fifo = s.fifo ∨
      (s.fifo.length ≤ 8 ∧ (fetcherStep s).fifo = s.fifo ++ tilePixels s.lo s.hi) := by
  rcases fetcherStep_cases s with ⟨_, _, h⟩ | ⟨_, h⟩ | ⟨_, _, h⟩ | ⟨_, _, h⟩ | ⟨_, _, h⟩ | ⟨_, _, h⟩ | ⟨_, h⟩ |
    ⟨_, hroom, h⟩ | ⟨_, _, h⟩ <;> rw [h]
  · exact .inl rfl
  · exact .inl rfl
  · exact .inl rfl
  · exact .inl rfl
  · exact .inl rfl
  · exact .inl rfl
  · exact .inl rfl
  · exact .inr ⟨hroom, rfl⟩
  · exact .inl rfl

/-- Pushing 8 pixels onto 8 entries or fewer leaves at most 16 (R49). -/
theorem fetcherStep_fifo_le {s : State} (h : s.fifo.length ≤ 16) : (fetcherStep s).fifo.length ≤ 16 := by
  rcases fetcherStep_fifo s with hs | ⟨hroom, hs⟩ <;> rw [hs]
  · exact h
  · rw [List.length_append, tilePixels_length]
    omega

/-- A FIFO step pops at most one entry, and moves the cursor only to emit it (R112 to R114). -/
theorem fifoStep_fifo_cursor (c : Config) (s : State) :
    (fifoStep c s).fifo.length ≤ s.fifo.length ∧
      ((fifoStep c s).cursor = s.cursor ∨ (fifoStep c s).cursor = s.cursor + 1) := by
  rcases fifoStep_cases c s with ⟨_, h⟩ | ⟨_, _, h⟩ | ⟨_, _, h⟩ <;> rw [h]
  · exact ⟨le_rfl, .inl rfl⟩
  · exact ⟨by simp, .inl rfl⟩
  · exact ⟨by simp, .inr rfl⟩

/-! ### Transitions and cycles keep the invariants -/

/-- Outside Transfer, with the display enabled and a clock just restarted, the invariants ask for the line, the FIFO and the
discards only. -/
theorem timing_of_clock_zero {s : State} (he : s.displayEnabled = true) (hc : s.modeClock = 0) (hm : s.mode ≠ .transfer)
    (hfifo : s.fifo.length ≤ 16) (hd : s.discard + s.borrowed ≤ 7)
    (hv : s.mode = .vblank → (144#8 ≤ s.ly ∧ s.ly ≤ 152#8) ∨ s.ly = 0#8) (hl : s.mode ≠ .vblank → s.ly ≤ 143#8) :
    s.TimingInv where
  disabled h := by simp [he] at h
  transfer h := absurd h hm
  fifo := hfifo
  discards := hd
  vblankLine := hv
  visibleLine := hl
  clock := (ready_zero hc hd).1

/-- In Transfer the clock is bounded by the cursor alone. -/
theorem timing_in_transfer {s : State} (he : s.displayEnabled = true) (hm : s.mode = .transfer) (hl : s.ly ≤ 143#8)
    (hcur : s.cursor < 160) (hfifo : s.fifo.length ≤ 16) (hd : s.discard + s.borrowed ≤ 7) : s.TimingInv where
  disabled h := by simp [he] at h
  transfer _ := ⟨hl, hcur⟩
  fifo := hfifo
  discards := hd
  vblankLine h := by simp [hm] at h
  visibleLine _ := hl
  clock := by simp [State.clockInRange, hm]

theorem timing_enterTransfer {s : State} (he : s.displayEnabled = true) (hl : s.ly ≤ 143#8) : (enterTransfer s).TimingInv :=
  timing_in_transfer he rfl hl (Nat.zero_lt_succ 159) (Nat.zero_le 16) (ready_enterTransfer s).2

section
variable {s : State} (he : s.displayEnabled = true) (hfifo : s.fifo.length ≤ 16) (hd : s.discard + s.borrowed ≤ 7)
include he hfifo hd

theorem timing_enterHBlank (hl : s.ly ≤ 143#8) : (enterHBlank s).TimingInv := by
  rw [enterHBlank_eq]
  exact timing_of_clock_zero he rfl (by simp) hfifo hd (by simp) fun _ => hl

theorem timing_endHBlank (hl : s.ly ≤ 143#8) : (endHBlank s).TimingInv := by
  rw [endHBlank_eq hl]
  by_cases hlast : s.ly = 143#8
  · exact timing_of_clock_zero he rfl (by simp [hlast]) hfifo hd (fun _ => .inl (by simp [hlast])) (by simp [hlast])
  · have hnext : s.ly + 1#8 ≤ 143#8 := by bv_omega
    exact timing_of_clock_zero he rfl (by simp [hlast]) hfifo hd (by simp [hlast]) fun _ => hnext

theorem timing_vblankSlotEnd (hm : s.mode = .vblank) (hl : (144#8 ≤ s.ly ∧ s.ly ≤ 152#8) ∨ s.ly = 0#8) :
    (vblankSlotEnd s).TimingInv := by
  by_cases h0 : s.ly = 0#8
  · rw [vblankSlotEnd_lineZero h0]
    exact timing_of_clock_zero he rfl (by simp) hfifo hd (by simp) fun _ => by simp [h0]
  by_cases h152 : s.ly = 152#8
  · rw [vblankSlotEnd_line152 h152]
    exact timing_of_clock_zero he rfl (by simp [hm]) hfifo hd (fun _ => .inr rfl) (by simp [hm])
  · obtain ⟨hlo, hhi⟩ := hl.resolve_right h0
    have hnext : 144#8 ≤ s.ly + 1#8 ∧ s.ly + 1#8 ≤ 152#8 := by bv_omega
    rw [vblankSlotEnd_nextLine h0 (by bv_omega)]
    exact timing_of_clock_zero he rfl (by simp [hm]) hfifo hd (fun _ => .inl hnext) (by simp [hm])

end

section
variable (c : Config) {s : State} (he : s.displayEnabled = true) (hi : s.TimingInv)
include he hi

/-- A cycle of Transfer: the cursor stays below 160, or the cycle that makes it 160 leaves the mode. -/
theorem timing_transferCycle (hm : s.mode = .transfer) : (transferCycle c s).TimingInv := by
  obtain ⟨hl, hcur⟩ := hi.transfer hm
  have hfetch := fetcherStep_fifo_le hi.fifo
  by_cases hf : (fetcherStep s).fault = none
  · have hcursor : (fetcherStep s).cursor = s.cursor := by rw [fetcherStep_frame]
    obtain ⟨hpop, hmove⟩ := fifoStep_fifo_cursor c (fetcherStep s)
    have hd := pseudoCycle_discards c s
    have hp : pseudoCycle c s = fifoStep c (fetcherStep s) := andThen_running hf _
    rw [hp] at hd
    have hkept : (fifoStep c (fetcherStep s)).displayEnabled = true ∧ (fifoStep c (fetcherStep s)).mode = .transfer ∧
        (fifoStep c (fetcherStep s)).ly ≤ 143#8 := by
      rw [fifoStep_frame, fetcherStep_frame]
      exact ⟨he, hm, hl⟩
    obtain ⟨he', hm', hl'⟩ := hkept
    have hfifo' := hpop.trans hfetch
    have hd' := hd.le.trans hi.discards
    rw [transferCycle_running c hf]
    rcases closeTransferCycle_cases (fifoStep c (fetcherStep s)) with ⟨_, h⟩ | ⟨hne, h⟩ <;> rw [h]
    · exact timing_enterHBlank he' hfifo' hd' hl'
    · exact timing_in_transfer he' hm' hl' (by show (fifoStep c (fetcherStep s)).cursor < 160; omega) hfifo' hd'
  · rw [transferCycle_faulted c hf, fetcherStep_frame]
    exact timing_in_transfer he hm hl hcur hfetch hi.discards

theorem timing_cycle : (cycle c s).TimingInv := by
  rcases cycle_cases c hi.clock with ⟨hm, h⟩ | ⟨hm, hc, h⟩ | ⟨hm, _, h⟩ | ⟨hm, _, h⟩ | ⟨hm, _, h⟩ <;> rw [h]
  · exact timing_transferCycle c he hi hm
  · exact { hi with disabled := by simp [State.displayEnabled, show bit s.lcdc 7 = true from he], clock := hc }
  · exact timing_enterTransfer he (hi.visibleLine (by simp [hm]))
  · exact timing_endHBlank he hi.fifo hi.discards (hi.visibleLine (by simp [hm]))
  · exact timing_vblankSlotEnd he hi.fifo hi.discards hm (hi.vblankLine hm)

end

/-! ### Induction over the cycles of a TICK -/

theorem State.TimingInv.ready {s : State} (h : s.TimingInv) : Ready s := ⟨h.clock, h.discards⟩

theorem cycle_displayEnabled (c : Config) (s : State) : (cycle c s).displayEnabled = s.displayEnabled := by
  rw [cycle_frame]
  rfl

/-- What every cycle of a running, enabled state with the timing invariants keeps, any number of cycles keeps, and the
timing invariants with it. -/
theorem cycles_keep {c : Config} {P : State → Prop}
    (hcycle : ∀ s, s.fault = none → s.displayEnabled = true → s.TimingInv → P s → P (cycle c s)) (n : Nat) {s : State}
    (he : s.displayEnabled = true) (hi : s.TimingInv) (hp : P s) : (cycles c n s).TimingInv ∧ P (cycles c n s) := by
  induction n generalizing s with
  | zero => exact ⟨hi, hp⟩
  | succ n ih =>
    by_cases hf : s.fault = none
    · rw [cycles_succ c n hf]
      exact ih (by rwa [cycle_displayEnabled]) (timing_cycle c he hi) (hcycle s hf he hi hp)
    · rw [cycles_stopped c _ hf]
      exact ⟨hi, hp⟩

/-- The same of a TICK, which leaves a disabled display alone. -/
theorem tick_keeps {c : Config} {P : State → Prop}
    (hcycle : ∀ s, s.fault = none → s.displayEnabled = true → s.TimingInv → P s → P (cycle c s)) (n : Nat) {s : State}
    (hi : s.TimingInv) (hp : P s) : (tick c n s).TimingInv ∧ P (tick c n s) := by
  by_cases he : s.displayEnabled = true
  · rw [tick_eq_cycles c n he hi.ready]
    exact cycles_keep hcycle n he hi hp
  · rw [tick, if_neg he]
    exact ⟨hi, hp⟩

theorem timing_tick (c : Config) (n : Nat) {s : State} (hi : s.TimingInv) : (tick c n s).TimingInv :=
  (tick_keeps (P := fun _ => True) (fun _ _ _ _ _ => trivial) n hi trivial).1

/-! ### The other operations -/

/-- Beside TICK and WRITE_LCDC no operation touches the scheduler's state, LCDC or the pipeline. -/
theorem effect_pipeline_cases (i : Instr) (s : State) :
    (∃ n, i = .tick n) ∨ (∃ d, i = .writeLcdc d) ∨
      effect i s =
        { effect i s with
          mode := s.mode, modeClock := s.modeClock, ly := s.ly, cursor := s.cursor, borrowed := s.borrowed, lcdc := s.lcdc
          fstate := s.fstate, fcol := s.fcol, tileIdx := s.tileIdx, lo := s.lo, hi := s.hi, fifo := s.fifo
          discard := s.discard } := by
  cases i with
  | tick n => exact .inl ⟨n, rfl⟩
  | writeLcdc d => exact .inr (.inl ⟨d, rfl⟩)
  | writeVram a d => rw [effect, vramWrite_frame]; exact .inr (.inr rfl)
  | writeOam a d => rw [effect, oamWrite_frame]; exact .inr (.inr rfl)
  | _ => exact .inr (.inr rfl)

/-- A write of LCDC: the display-off reset gives the state of a disabled display, and off the edge a display that was
disabled had it already. -/
theorem timing_writeLcdc (d : Byte) {s : State} (hi : s.TimingInv) : (writeLcdc d s).TimingInv := by
  rcases writeLcdc_cases d s with ⟨_, _, h⟩ | ⟨hkeep, h⟩ <;> rw [h]
  · have hd : s.discard + 0 ≤ 7 := le_trans (by omega) hi.discards
    exact
      { disabled := fun _ => ⟨rfl, rfl⟩, transfer := (nomatch ·), fifo := hi.fifo, discards := hd
        vblankLine := (nomatch ·), visibleLine := fun _ => by simp, clock := (ready_zero rfl hd).1 }
  · refine { hi with disabled := fun hoff => hi.disabled ?_ }
    have hd : bit d 7 = false := hoff
    simpa [hd, State.displayEnabled] using hkeep

theorem timing_effect (i : Instr) {s : State} (hi : s.TimingInv) : (effect i s).TimingInv := by
  rcases effect_pipeline_cases i s with ⟨n, rfl⟩ | ⟨d, rfl⟩ | hsame
  · exact timing_tick _ n hi
  · exact timing_writeLcdc d hi
  · rw [hsame]
    exact { hi with }

/-- Settles O11: taking a request touches no field of the invariants, and every operation keeps them. -/
theorem stepKeepsTimingInvariants : Obligations.StepKeepsTimingInvariants := by
  unfold Obligations.StepKeepsTimingInvariants
  intro s t
  exact step_keeps (fun _ _ hi => { hi with }) fun i _ _ _ hi => timing_effect i hi

end Sys2Proof.Machine
end

section
/-!
The memory surfaces stay in canonical form and within their sizes (10_state.md section 7, 20_memory.md section 1): each writer
stores at an address below the size of its surface, the emitting cycle by the timing invariants and a bus write because the
decoder answers only well-formed operations.
-/

namespace Sys2Proof.Machine

/-! ### TICK -/

/-- A cycle of Transfer writes one pixel of the framebuffer, at (cursor, ly), or none (R112 to R114). -/
theorem transferCycle_fb (c : Config) (s : State) :
    (transferCycle c s).fb = s.fb ∨ ∃ p, (transferCycle c s).fb = fbWrite s.fb s.cursor s.ly.toNat p := by
  have hclose (t : State) : (closeTransferCycle t).fb = t.fb := by
    rcases closeTransferCycle_cases t with ⟨_, h⟩ | ⟨_, h⟩ <;> rw [h]
    rw [enterHBlank_eq]
  have hfetch : fetcherStep s = _ := fetcherStep_frame s
  by_cases hf : (fetcherStep s).fault = none
  · rw [transferCycle_running c hf, hclose]
    rcases fifoStep_cases c (fetcherStep s) with ⟨_, h⟩ | ⟨_, _, h⟩ | ⟨_, _, h⟩ <;> rw [h, hfetch]
    · exact .inl rfl
    · exact .inl rfl
    · exact .inr ⟨_, rfl⟩
  · rw [transferCycle_faulted c hf, hfetch]
    exact .inl rfl

/-- Outside Transfer a cycle leaves the framebuffer. -/
theorem cycle_fb (c : Config) {s : State} (hc : s.clockInRange) :
    (cycle c s).fb = s.fb ∨ s.mode = .transfer ∧ ∃ p, (cycle c s).fb = fbWrite s.fb s.cursor s.ly.toNat p := by
  rcases cycle_pipeline_cases c hc with ⟨hm, h⟩ | ⟨_, h⟩ | ⟨_, _, h⟩ <;> rw [h]
  · exact (transferCycle_fb c s).imp_right fun hw => ⟨hm, hw⟩
  · exact .inl rfl
  · exact .inl rfl

theorem memories_cycle (c : Config) {s : State} (hi : s.TimingInv) (hm : s.MemoriesCanonical) :
    (cycle c s).MemoriesCanonical := by
  rw [cycle_frame]
  refine { hm with fb := ?_ }
  rcases cycle_fb c hi.clock with h | ⟨htr, p, h⟩
  · exact h ▸ hm.fb
  · obtain ⟨hly, hcur⟩ := hi.transfer htr
    have hrow : s.ly.toNat < 144 := by bv_omega
    exact h ▸ ⟨fbWrite_wf _ _ p hm.fb.1, fbWrite_within p hm.fb.2 hcur hrow⟩

/-! ### Bus writes -/

/-- A memory after a byte is stored below its size. -/
theorem canonical_write {n a : Nat} {m : Memory} (d : Byte) (hm : m.wf ∧ m.within n) (ha : a < n) :
    (m.write a d).wf ∧ (m.write a d).within n :=
  ⟨Memory.write_wf a d hm.1, Memory.write_within d hm.2 ha⟩

theorem memories_vramWrite (c : Config) {a : Addr} (d : Byte) {s : State} (ha : inVramWindow a = true)
    (hm : s.MemoriesCanonical) : (vramWrite c a d s).MemoriesCanonical := by
  have hindex : vramIndex a < vramSize := by
    rw [inVramWindow_iff] at ha
    unfold vramIndex vramSize
    omega
  unfold vramWrite
  split
  · exact hm
  · rw [setVram_bank, vram_bank]
    split
    · exact { hm with vram1 := canonical_write d hm.vram1 hindex }
    · exact { hm with vram0 := canonical_write d hm.vram0 hindex }

theorem memories_oamWrite {a : Addr} (d : Byte) {s : State} (ha : inOamWindow a = true) (hm : s.MemoriesCanonical) :
    (oamWrite a d s).MemoriesCanonical := by
  have hindex : oamIndex a < oamSize := by
    rw [inOamWindow_iff] at ha
    unfold oamIndex oamSize
    omega
  unfold oamWrite
  split
  · exact hm
  · exact { hm with oam := canonical_write d hm.oam hindex }

/-- A palette index is below 64 by its width (R36). -/
theorem canonical_paletteWrite (s : State) {m : Memory} (idx : BitVec 6) (d : Byte) (hm : m.wf ∧ m.within paletteSize) :
    (paletteWrite s m idx d).wf ∧ (paletteWrite s m idx d).within paletteSize := by
  unfold paletteWrite
  split
  · exact hm
  · exact canonical_write d hm idx.isLt

theorem memories_effect {i : Instr} {s : State} (hw : i.wellFormed = true) (hi : s.TimingInv) (hm : s.MemoriesCanonical) :
    (effect i s).MemoriesCanonical := by
  rcases effect_memory_cases i s with ⟨a, d, rfl⟩ | ⟨a, d, rfl⟩ | ⟨d, rfl⟩ | ⟨d, rfl⟩ | ⟨n, rfl⟩ | ⟨d, rfl⟩ | hsame
  · exact memories_vramWrite _ d hw hm
  · exact memories_oamWrite d hw hm
  · exact { hm with bgpal := canonical_paletteWrite s s.bcpsIdx d hm.bgpal }
  · exact { hm with objpal := canonical_paletteWrite s s.ocpsIdx d hm.objpal }
  · exact (tick_keeps (fun _ _ _ hi hm => memories_cycle _ hi hm) n hi hm).2
  · rcases writeLcdc_cases d s with ⟨_, _, h⟩ | ⟨_, h⟩ <;> rw [effect, h]
    · exact { hm with fb := ⟨Memory.filled_wf _ _, Memory.filled_within _ _⟩ }
    · exact { hm with }
  · rw [hsame]
    exact { hm with }

/-- Settles O12: the timing invariants are carried along, since they bound the pixel that a cycle writes. -/
theorem stepKeepsMemoriesCanonical : Obligations.StepKeepsMemoriesCanonical := by
  unfold Obligations.StepKeepsMemoriesCanonical
  intro s t hi hm h
  exact (step_keeps (P := fun s => s.TimingInv ∧ s.MemoriesCanonical) (fun _ _ hp => ⟨{ hp.1 with }, { hp.2 with }⟩)
    (fun i _ hw _ hp => ⟨timing_effect i hp.1, memories_effect hw hp.1 hp.2⟩) ⟨hi, hm⟩ h).2

end Sys2Proof.Machine
end

section
/-!
The fetch fault (60_exceptions.md R175, R176): a cycle raises it exactly when a plane read addresses below the VRAM window,
which takes tile-data mode 0 and a tile number of 0x80 or more. A machine that is safe from it stays so through every TICK,
because the tile numbers come from the maps and no cycle writes video memory.
-/

namespace Sys2Proof.Machine

/-! ### When a plane address lies below the window -/

/-- The condition of R176 on a plane read: tile-data mode 0 with a tile number of 0x80 or more. -/
def BelowWindow (s : State) : Prop := bit s.lcdc 4 = false ∧ 0x80#8 ≤ s.tileIdx

/-- The row offset and the plane move an address by at most 15, so both planes lie on the side of 0x8000 of their tile. -/
theorem planeAddr_range (s : State) :
    (BelowWindow s → 0x7800 ≤ lowAddr s ∧ highAddr s ≤ 0x7FFF) ∧ (¬ BelowWindow s → 0x8000 ≤ lowAddr s) := by
  have hrow := rowOff_le s
  obtain ⟨hin, hbelow⟩ := tileAddr_range s
  unfold BelowWindow lowAddr highAddr
  refine ⟨fun ⟨hmode, hidx⟩ => ?_, fun h => ?_⟩
  · have := hbelow hmode (by bv_omega)
    omega
  · have hsafe : bit s.lcdc 4 = true ∨ s.tileIdx.toNat < 128 := by
      rcases Bool.eq_false_or_eq_true (bit s.lcdc 4) with hmode | hmode
      · exact .inl hmode
      · have hidx : ¬ 0x80#8 ≤ s.tileIdx := fun hidx => h ⟨hmode, hidx⟩
        exact .inr (by bv_omega)
    have := hin hsafe
    omega

theorem highAddr_eq (s : State) : highAddr s = lowAddr s + 1 := rfl

/-! ### The faulting step -/

/-- A fetcher step of a running machine raises a fault only in a plane read below the window, and then it does nothing
else. -/
theorem fetcherStep_faulted {s : State} (hf : s.fault = none) (h : (fetcherStep s).fault ≠ none) :
    (s.fstate = .readLow ∨ s.fstate = .readHigh) ∧ BelowWindow s ∧
      fetcherStep s = s.raise (.fetchFault (if s.fstate = .readLow then lowAddr s else highAddr s)) := by
  have hlow (hlt : lowAddr s < 0x8000) : BelowWindow s := by
    by_contra hnot
    have := (planeAddr_range s).2 hnot
    omega
  have hhigh := highAddr_eq s
  rcases fetcherStep_cases s with ⟨_, _, hs⟩ | ⟨_, hs⟩ | ⟨_, _, hs⟩ | ⟨hst, hlt, hs⟩ | ⟨_, _, hs⟩ | ⟨hst, hlt, hs⟩ | ⟨_, hs⟩ |
    ⟨_, _, hs⟩ | ⟨_, _, hs⟩ <;> rw [hs] at h ⊢
  · exact absurd hf h
  · exact absurd hf h
  · exact absurd hf h
  · exact ⟨.inl hst, hlow hlt, by rw [if_pos hst]⟩
  · exact absurd hf h
  · exact ⟨.inr hst, hlow (by omega), by rw [if_neg (by simp [hst])]⟩
  · exact absurd hf h
  · exact absurd hf h
  · exact absurd hf h

theorem fetcherStep_fault_iff {s : State} (hf : s.fault = none) :
    (fetcherStep s).fault ≠ none ↔ (s.fstate = .readLow ∨ s.fstate = .readHigh) ∧ BelowWindow s := by
  refine ⟨fun h => ⟨(fetcherStep_faulted hf h).1, (fetcherStep_faulted hf h).2.1⟩, fun ⟨hst, hbelow⟩ => ?_⟩
  have hrange := (planeAddr_range s).1 hbelow
  have hhigh := highAddr_eq s
  obtain ⟨-, -, -, hlowFault, -, hhighFault, -⟩ := fetcherSteps s
  rcases hst with hst | hst
  · rw [hlowFault hst (by omega)]
    simp
  · rw [hhighFault hst (by omega)]
    simp

/-- Beside its fetcher step nothing in a cycle of Transfer touches the fault, the fetcher's state or the tile number. -/
theorem transferCycle_fetcher (c : Config) (s : State) :
    (transferCycle c s).fault = (fetcherStep s).fault ∧ (transferCycle c s).fstate = (fetcherStep s).fstate ∧
      (transferCycle c s).tileIdx = (fetcherStep s).tileIdx := by
  by_cases hf : (fetcherStep s).fault = none
  · rw [transferCycle_running c hf]
    rcases closeTransferCycle_cases (fifoStep c (fetcherStep s)) with ⟨_, h⟩ | ⟨_, h⟩ <;> rw [h]
    · rw [enterHBlank_eq, fifoStep_frame]
      exact ⟨rfl, rfl, rfl⟩
    · rw [fifoStep_frame]
      exact ⟨rfl, rfl, rfl⟩
  · rw [transferCycle_faulted c hf]
    exact ⟨rfl, rfl, rfl⟩

/-- Settles O38: the cycle's fault is that of its fetcher step, which then is the whole cycle. -/
theorem fetchFaultCondition : Obligations.FetchFaultCondition := by
  unfold Obligations.FetchFaultCondition
  intro s hf he hm
  refine ⟨transferCycle Config.given s, by rw [exec_running hf, effect, tick_one_transfer _ he hf hm], ?_, fun h => ?_⟩
  · rw [(transferCycle_fetcher _ s).1]
    exact fetcherStep_fault_iff hf
  · rw [(transferCycle_fetcher _ s).1] at h
    obtain ⟨_, hbelow, hraise⟩ := fetcherStep_faulted hf h
    have hrange := (planeAddr_range s).1 hbelow
    have hhigh := highAddr_eq s
    refine ⟨if s.fstate = .readLow then lowAddr s else highAddr s, ?_, ?_, (transferCycle_faulted _ h).trans hraise, rfl⟩
    · split <;> omega
    · split <;> omega

/-! ### Machines that are safe from the fault -/

/-- Every tile number in the two maps is below 0x80, and so is the one the fetcher holds. -/
def LowTileNumbers (s : State) : Prop :=
  (∀ i, 0x1800 ≤ i → i < 0x2000 → s.vram0.read i < 0x80#8) ∧ (holdsTileNumber s.fstate = true → s.tileIdx < 0x80#8)

/-- The fetcher takes its next tile number from a map, and otherwise keeps the one it holds. -/
theorem lowTileNumbers_fetcherStep {s : State} (h : LowTileNumbers s) : LowTileNumbers (fetcherStep s) := by
  obtain ⟨hmap, hheld⟩ := h
  refine ⟨by rwa [fetcherStep_frame], ?_⟩
  have hrange := mapAddr_range s
  rcases fetcherStep_cases s with ⟨next, hst, hs⟩ | ⟨_, hs⟩ | ⟨hst, _, hs⟩ | ⟨hst, _, hs⟩ | ⟨_, _, hs⟩ | ⟨hst, _, hs⟩ |
    ⟨_, hs⟩ | ⟨_, _, hs⟩ | ⟨hst, _, hs⟩ <;> rw [hs]
  · intro hholds
    refine hheld ?_
    rw [hst]
    cases next
    · cases hholds
    · rfl
    · rfl
  · exact fun _ => hmap _ (by omega) (by omega)
  · exact fun _ => hheld (by rw [hst]; rfl)
  · exact hheld
  · exact fun hholds => nomatch hholds
  · exact hheld
  · exact fun hholds => nomatch hholds
  · exact fun hholds => nomatch hholds
  · exact hheld

section
variable (c : Config) {s : State} (hi : s.TimingInv) (hf : s.fault = none)
include hi

/-- In Transfer the cycle is the fetcher step as far as tile numbers go, and a new Transfer begins with none held. -/
theorem lowTileNumbers_cycle (hmap : ∀ i, 0x1800 ≤ i → i < 0x2000 → s.vram0.read i < 0x80#8)
    (h : s.mode = .transfer → holdsTileNumber s.fstate = true → s.tileIdx < 0x80#8) (hm' : (cycle c s).mode = .transfer) :
    holdsTileNumber (cycle c s).fstate = true → (cycle c s).tileIdx < 0x80#8 := by
  rcases cycle_pipeline_cases c hi.clock with ⟨hm, hs⟩ | ⟨_, hs⟩ | ⟨_, hm'', _⟩
  · obtain ⟨_, hst, hidx⟩ := transferCycle_fetcher c s
    rw [hs, hst, hidx]
    exact (lowTileNumbers_fetcherStep ⟨hmap, h hm⟩).2
  · rw [hs]
    exact fun hholds => nomatch hholds
  · exact absurd hm' hm''

include hf

/-- Outside a faulting plane read of Transfer a cycle raises no fault. -/
theorem cycle_fault_none (h : s.mode = .transfer → ¬ ((s.fstate = .readLow ∨ s.fstate = .readHigh) ∧ BelowWindow s)) :
    (cycle c s).fault = none := by
  rcases cycle_pipeline_cases c hi.clock with ⟨hm, hs⟩ | ⟨_, hs⟩ | ⟨_, _, hs⟩ <;> rw [hs]
  · rw [(transferCycle_fetcher c s).1]
    exact not_not.1 (mt (fetcherStep_fault_iff hf).1 (h hm))
  · exact hf
  · exact hf

/-- A safe machine takes each cycle without a fault, and is safe after it: LCDC and the maps stay, and the tile number held
stays low. -/
theorem fetchSafe_cycle (he : s.displayEnabled = true) (hsafe : s.fetchSafe) :
    (cycle c s).fault = none ∧ (cycle c s).fetchSafe := by
  have hlcdc : (cycle c s).lcdc = s.lcdc := by rw [cycle_frame]; rfl
  have hvram : (cycle c s).vram0 = s.vram0 := by rw [cycle_frame]; rfl
  rcases hsafe with hmode | hoff | ⟨hmap, hheld⟩
  · refine ⟨cycle_fault_none c hi hf fun _ ⟨_, hbelow, _⟩ => ?_, .inl (by rw [hlcdc, hmode])⟩
    rw [hmode] at hbelow
    cases hbelow
  · rw [he] at hoff
    cases hoff
  · refine ⟨cycle_fault_none c hi hf fun hm ⟨hst, _, hidx⟩ => ?_, .inr (.inr ⟨by rwa [hvram], ?_⟩)⟩
    · have hholds : holdsTileNumber s.fstate = true := by rcases hst with h | h <;> rw [h] <;> rfl
      have hlow := hheld hm hholds
      bv_omega
    · exact lowTileNumbers_cycle c hi hmap hheld

end

/-- Settles O39: `fetchSafe_cycle`, by induction over the cycles of the TICK. -/
theorem fetchSafeTicksNeverFault : Obligations.FetchSafeTicksNeverFault := by
  unfold Obligations.FetchSafeTicksNeverFault
  intro s n hf hi hsafe
  refine ⟨_, exec_running hf (.tick n), ?_⟩
  exact (tick_keeps (P := fun s => s.fault = none ∧ s.fetchSafe)
    (fun s hf he hi hp => fetchSafe_cycle _ hi hf he hp.2) n hi ⟨hf, hsafe⟩).2

end Sys2Proof.Machine
end

section
/-!
The pixel pipeline's timeline (41_pixel_pipeline.md R117, R118). The fetcher runs through eight states in a fixed order and
pushes 8 pixels on each eighth step, and the FIFO gives one of them on every step from the second push on; `k` pseudo-cycles
after the entry of Transfer these two facts fix the pipeline's state.
-/

namespace Sys2Proof.Machine

/-! ### The order of the fetcher's states -/

/-- The state that a fetcher step without a fault and with room in the FIFO leads to (R101 to R109;
`fetcherStep_progress`). -/
def FetcherState.next : FetcherState → FetcherState
  | .idle r => r.target
  | .readTile => .idle .low
  | .readLow => .idle .high
  | .readHigh => .push .advance
  | .push .advance => .push .commit
  | .push .commit => .idle .tile

theorem fetcherStep_progress {s : State} (hf : (fetcherStep s).fault = none) (hroom : s.fstate = .push .commit → s.fifo.length ≤ 8) :
    (fetcherStep s).fstate = s.fstate.next ∧
      (fetcherStep s).fcol = (if s.fstate = .push .advance then s.fcol + 1#5 else s.fcol) ∧
      (fetcherStep s).fifo.length = s.fifo.length + (if s.fstate = .push .commit then 8 else 0) := by
  rcases fetcherStep_cases s with ⟨_, hst, h⟩ | ⟨hst, h⟩ | ⟨hst, _, h⟩ | ⟨_, _, h⟩ | ⟨hst, _, h⟩ | ⟨_, _, h⟩ | ⟨hst, h⟩ |
    ⟨hst, _, h⟩ | ⟨hst, hfull, h⟩
  · simp [h, hst, FetcherState.next]
  · simp [h, hst, FetcherState.next]
  · simp [h, hst, FetcherState.next]
  · rw [h] at hf
    cases hf
  · simp [h, hst, FetcherState.next]
  · rw [h] at hf
    cases hf
  · simp [h, hst, FetcherState.next]
  · simp [h, hst, FetcherState.next, tilePixels_length]
  · exact absurd (hroom hst) (by omega)

/-- The timeline's states follow each other in that order; its two push states are those of the last two steps of a tile. -/
theorem fetcherStateAt_spec (k : Nat) :
    fetcherStateAt (k + 1) = (fetcherStateAt k).next ∧ (fetcherStateAt k = .push .advance ↔ k % 8 = 6) ∧
      (fetcherStateAt k = .push .commit ↔ k % 8 = 7) := by
  have hlt : k % 8 < 8 := Nat.mod_lt k (by omega)
  have hsucc : (k + 1) % 8 = (k % 8 + 1) % 8 := by omega
  unfold fetcherStateAt
  rw [hsucc]
  generalize k % 8 = r at hlt ⊢
  interval_cases r <;> simp [FetcherState.next, ReadStep.target]

/-! ### One FIFO step -/

/-- A FIFO step pops one entry above 8, and counts it as emitted or as borrowed; discards come before emissions. -/
theorem fifoStep_progress (c : Config) (s : State) :
    (fifoStep c s).fifo.length = s.fifo.length - (if 8 < s.fifo.length then 1 else 0) ∧
      (fifoStep c s).cursor + (fifoStep c s).borrowed = s.cursor + s.borrowed + (if 8 < s.fifo.length then 1 else 0) ∧
      ((0 < s.cursor → s.discard = 0) → 0 < (fifoStep c s).cursor → (fifoStep c s).discard = 0) := by
  rcases fifoStep_cases c s with ⟨hle, h⟩ | ⟨hgt, hpos, h⟩ | ⟨hgt, hzero, h⟩ <;> rw [h]
  · simp [Nat.not_lt.2 hle]
  · simp only [discardPop_fifo_eq, List.length_tail, discardPop_cursor_eq, discardPop_borrowed_eq, discardPop_discard_eq,
      if_pos hgt]
    refine ⟨trivial, by omega, fun horder hcur => ?_⟩
    have := horder hcur
    omega
  · simp only [emitPop_fifo_eq, List.length_tail, emitPop_cursor_eq, emitPop_borrowed_eq, emitPop_discard_eq, if_pos hgt]
    exact ⟨trivial, by omega, fun _ _ => hzero⟩

/-! ### The timeline -/

/-- The pipeline's state `k` pseudo-cycles after the entry of Transfer (R117). -/
structure OnTimeline (k : Nat) (s : State) : Prop where
  fetcher : s.fstate = fetcherStateAt k
  column : s.fcol = BitVec.ofNat 5 ((k + 1) / 8)
  fifo : s.fifo.length = fifoLengthAt k
  pops : s.cursor + s.borrowed = k - 15
  order : 0 < s.cursor → s.discard = 0

theorem pipelineInStep_iff (s : State) : s.PipelineInStep ↔ (s.mode = .transfer → OnTimeline s.modeClock s) :=
  ⟨fun h hm => ⟨h.fetcher hm, h.column hm, h.fifo hm, h.pops hm, h.order hm⟩,
    fun h => ⟨fun hm => (h hm).fetcher, fun hm => (h hm).column, fun hm => (h hm).fifo, fun hm => (h hm).pops,
      fun hm => (h hm).order⟩⟩

/-- A state that agrees on the pipeline is on the timeline too. -/
theorem OnTimeline.congr {k : Nat} {s t : State} (h : OnTimeline k s) (hst : t.fstate = s.fstate) (hcol : t.fcol = s.fcol)
    (hfifo : t.fifo = s.fifo) (hcur : t.cursor = s.cursor) (hbor : t.borrowed = s.borrowed) (hdis : t.discard = s.discard) :
    OnTimeline k t := by
  constructor
  · rw [hst, h.fetcher]
  · rw [hcol, h.column]
  · rw [hfifo, h.fifo]
  · rw [hcur, hbor, h.pops]
  · rw [hcur, hdis]
    exact h.order

theorem onTimeline_enterTransfer (s : State) : OnTimeline 0 (enterTransfer s) :=
  ⟨rfl, rfl, rfl, rfl, fun h => nomatch h⟩

/-- At a commit the timeline has an empty FIFO or one tile in it (R118). -/
theorem fifoLengthAt_commit {k : Nat} (h : k % 8 = 7) : fifoLengthAt k = 0 ∨ fifoLengthAt k = 8 := by
  unfold fifoLengthAt
  split_ifs <;> omega

/-- The FIFO's length: a push of 8 on each eighth step, and a pop from the second push on. -/
theorem fifoLengthAt_succ (k : Nat) :
    (8 < fifoLengthAt k + (if k % 8 = 7 then 8 else 0) ↔ 15 ≤ k) ∧
      fifoLengthAt (k + 1) = fifoLengthAt k + (if k % 8 = 7 then 8 else 0) - (if 15 ≤ k then 1 else 0) := by
  unfold fifoLengthAt
  split_ifs <;> omega

section
variable {k : Nat} {s : State} (h : OnTimeline k s)
include h

/-- On the timeline every commit finds room. -/
theorem OnTimeline.room (hst : s.fstate = .push .commit) : s.fifo.length = 0 ∨ s.fifo.length = 8 := by
  rw [h.fifo]
  exact fifoLengthAt_commit ((fetcherStateAt_spec k).2.2.1 (h.fetcher ▸ hst))

/-- A pseudo-cycle without a fault takes the pipeline one step along its timeline. -/
theorem OnTimeline.pseudoCycle (c : Config) (hf : (fetcherStep s).fault = none) :
    OnTimeline (k + 1) (fifoStep c (fetcherStep s)) := by
  obtain ⟨hnext, hadvance, hcommit⟩ := fetcherStateAt_spec k
  obtain ⟨hst, hcol, hlen⟩ := fetcherStep_progress hf fun hst => by
    rcases h.room hst with hr | hr <;> omega
  have hframe : (fetcherStep s).cursor = s.cursor ∧ (fetcherStep s).borrowed = s.borrowed ∧
      (fetcherStep s).discard = s.discard := by
    rw [fetcherStep_frame]
    exact ⟨rfl, rfl, rfl⟩
  obtain ⟨hcur, hbor, hdis⟩ := hframe
  obtain ⟨hpop, hpops, horder⟩ := fifoStep_progress c (fetcherStep s)
  have hkept : (fifoStep c (fetcherStep s)).fstate = (fetcherStep s).fstate ∧
      (fifoStep c (fetcherStep s)).fcol = (fetcherStep s).fcol := by
    rw [fifoStep_frame]
    exact ⟨rfl, rfl⟩
  obtain ⟨hst', hcol'⟩ := hkept
  obtain ⟨hfull, hfifo⟩ := fifoLengthAt_succ k
  simp only [h.fetcher, hadvance, hcommit, h.fifo] at hst hcol hlen
  simp only [hlen, hfull, hcur, hbor, hdis] at hpop hpops horder
  constructor
  · rw [hst', hst, hnext]
  · rw [hcol', hcol, h.column]
    split_ifs with h6
    · rw [show (k + 1 + 1) / 8 = (k + 1) / 8 + 1 by omega, BitVec.ofNat_add]
    · rw [show (k + 1 + 1) / 8 = (k + 1) / 8 by omega]
  · rw [hpop, hfifo]
  · have := h.pops
    split_ifs at hpops <;> omega
  · exact horder h.order

end

/-! ### Every step keeps the timeline -/

/-- A cycle of Transfer that does not fault: the pipeline one step on, and Transfer with its clock one on until the cursor
reaches 160. -/
theorem transferCycle_onTimeline (c : Config) {k : Nat} {s : State} (h : OnTimeline k s) (hf : (fetcherStep s).fault = none) :
    OnTimeline (k + 1) (transferCycle c s) ∧
      ((transferCycle c s).mode = .hblank ∧ (transferCycle c s).modeClock = 0 ∧ (transferCycle c s).cursor = 160 ∨
        (transferCycle c s).mode = s.mode ∧ (transferCycle c s).modeClock = s.modeClock + 1 ∧
          (transferCycle c s).cursor ≠ 160) := by
  have hp := h.pseudoCycle c hf
  have hsched : (fifoStep c (fetcherStep s)).mode = s.mode ∧ (fifoStep c (fetcherStep s)).modeClock = s.modeClock := by
    rw [fifoStep_frame, fetcherStep_frame]
    exact ⟨rfl, rfl⟩
  rw [transferCycle_running c hf]
  rcases closeTransferCycle_cases (fifoStep c (fetcherStep s)) with ⟨hcur, hs⟩ | ⟨hcur, hs⟩ <;> rw [hs]
  · rw [enterHBlank_eq]
    exact ⟨hp.congr rfl rfl rfl rfl rfl rfl, .inl ⟨rfl, rfl, hcur⟩⟩
  · exact ⟨hp.congr rfl rfl rfl rfl rfl rfl, .inr ⟨hsched.1, congrArg (· + 1) hsched.2, hcur⟩⟩

theorem inStep_cycle (c : Config) {s : State} (hrun : s.fault = none) (hi : s.TimingInv) (h : s.PipelineInStep) :
    (cycle c s).PipelineInStep := by
  rw [pipelineInStep_iff] at h ⊢
  intro hm'
  rcases cycle_pipeline_cases c hi.clock with ⟨hm, hs⟩ | ⟨_, hs⟩ | ⟨_, hm'', _⟩
  · rw [hs] at hm' ⊢
    by_cases hf : (fetcherStep s).fault = none
    · obtain ⟨hnext, ⟨hleft, _⟩ | ⟨_, hclock, _⟩⟩ := transferCycle_onTimeline c (h hm) hf
      · rw [hleft] at hm'
        cases hm'
      · rwa [hclock]
    · rw [transferCycle_faulted c hf, (fetcherStep_faulted hrun hf).2.2]
      exact (h hm).congr rfl rfl rfl rfl rfl rfl
  · rw [hs]
    exact onTimeline_enterTransfer _
  · exact absurd hm' hm''

theorem inStep_effect (i : Instr) {s : State} (hi : s.TimingInv) (h : s.PipelineInStep) :
    (effect i s).PipelineInStep := by
  rcases effect_pipeline_cases i s with ⟨n, rfl⟩ | ⟨d, rfl⟩ | hsame
  · exact (tick_keeps (fun _ hf _ hi hp => inStep_cycle _ hf hi hp) n hi h).2
  · rcases writeLcdc_cases d s with ⟨_, _, hw⟩ | ⟨_, hw⟩ <;> rw [effect, hw]
    · rw [pipelineInStep_iff]
      exact fun hm => nomatch hm
    · exact { h with }
  · rw [hsame]
    exact { h with }

/-- Settles O13: the timing invariants are carried along, as TICK is its single cycles only under them. -/
theorem stepKeepsPipelineInStep : Obligations.StepKeepsPipelineInStep := by
  unfold Obligations.StepKeepsPipelineInStep
  intro s t hi hp h
  exact (step_keeps (P := fun s => s.TimingInv ∧ s.PipelineInStep) (fun _ _ hp => ⟨{ hp.1 with }, { hp.2 with }⟩)
    (fun i _ _ _ hp => ⟨timing_effect i hp.1, inStep_effect i hp.1 hp.2⟩) ⟨hi, hp⟩ h).2

/-- Settles O40: the FIFO's length at a commit is the timeline's, which leaves room for the push. -/
theorem commitNeverStalls : Obligations.CommitNeverStalls := by
  unfold Obligations.CommitNeverStalls
  intro s _ hp hm hst
  have hroom := ((pipelineInStep_iff s).1 hp hm).room hst
  obtain ⟨-, -, -, -, -, -, -, hcommit, -⟩ := fetcherSteps s
  rw [hcommit hst (by omega)]
  exact ⟨hroom, by simp, rfl⟩

end Sys2Proof.Machine
end

section
/-!
Cycle counts (40_scheduler.md R94 to R98, 41_pixel_pipeline.md R117). TICK is additive, so that a line or a frame is a
sequence of segments, each of which leads from one place of the schedule to the next unless a fetch fault stops it.
-/

namespace Sys2Proof.Machine

/-! ### TICK is additive -/

theorem tick_displayEnabled (c : Config) (n : Nat) (s : State) : (tick c n s).displayEnabled = s.displayEnabled := by
  rw [tick_frame]
  rfl

/-- No cycle is lost or repeated between two TICKs (R94), a fault included: it stops both runs alike. -/
theorem tick_add (c : Config) (a b : Nat) {s : State} (hi : s.TimingInv) : tick c (a + b) s = tick c b (tick c a s) := by
  by_cases he : s.displayEnabled = true
  · rw [tick_eq_cycles c b (by rwa [tick_displayEnabled]) (timing_tick c a hi).ready, tick_eq_cycles c a he hi.ready,
      tick_eq_cycles c _ he hi.ready, cycles_add]
  · simp only [tick, if_neg he]

/-- Settles O25: `tick_add`, on two states that are both running. -/
theorem ticksCompose : Obligations.TicksCompose := by
  unfold Obligations.TicksCompose
  intro s t a b hi h hf'
  obtain ⟨hf, rfl⟩ := exec_next h
  rw [exec_running hf', exec_running hf]
  exact congrArg _ (tick_add _ a b hi).symm

theorem tick_one (c : Config) {s : State} (he : s.displayEnabled = true) (hf : s.fault = none) (hi : s.TimingInv) :
    tick c 1 s = cycle c s := by
  rw [tick_eq_cycles c 1 he hi.ready, cycles_succ c 0 hf, cycles_zero]

/-- A faulted machine stays as it is. -/
theorem tick_stopped (c : Config) (n : Nat) {s : State} (hi : s.TimingInv) (hf : s.fault ≠ none) : tick c n s = s := by
  by_cases he : s.displayEnabled = true
  · rw [tick_eq_cycles c n he hi.ready, cycles_stopped c n hf]
  · rw [tick, if_neg he]

/-! ### The line counter, cycle by cycle -/

theorem line_le {s : State} (hi : s.TimingInv) : s.ly ≤ 152#8 := by
  by_cases hm : s.mode = .vblank
  · have := hi.vblankLine hm
    bv_omega
  · have := hi.visibleLine hm
    bv_omega

/-- The line moves only at the end of HBlank and at the end of a VBlank slot. -/
theorem cycle_line (c : Config) {s : State} (hi : s.TimingInv) :
    (cycle c s).ly = s.ly ∨ ((cycle c s).ly = s.ly + 1#8 ∧ s.ly < 152#8) ∨ (s.ly = 152#8 ∧ (cycle c s).ly = 0#8) := by
  rcases cycle_cases c hi.clock with ⟨_, h⟩ | ⟨_, _, h⟩ | ⟨_, _, h⟩ | ⟨hm, _, h⟩ | ⟨_, _, h⟩
  · exact .inl (by rw [h, (transferCycle_schedule c s).1])
  · exact .inl (by rw [h])
  · exact .inl (by rw [h]; rfl)
  · have hly : s.ly ≤ 143#8 := hi.visibleLine (by simp [hm])
    rw [h, endHBlank_eq (by exact hly)]
    exact .inr (.inl ⟨rfl, by bv_omega⟩)
  · rw [h]
    by_cases h0 : s.ly = 0#8
    · rw [vblankSlotEnd_lineZero (by exact h0)]
      exact .inl rfl
    by_cases h152 : s.ly = 152#8
    · rw [vblankSlotEnd_line152 (by exact h152)]
      exact .inr (.inr ⟨h152, rfl⟩)
    · have hle := line_le hi
      have hlt : s.ly < 152#8 := by bv_omega
      rw [vblankSlotEnd_nextLine (by exact h0) (by exact hlt)]
      exact .inr (.inl ⟨rfl, hlt⟩)

/-- Settles O31: `cycle_line` with the display enabled, no change without, and the bound of the timing invariants. -/
theorem lineCounterSequence : Obligations.LineCounterSequence := by
  unfold Obligations.LineCounterSequence
  intro s hf hi
  refine ⟨⟨_, exec_running hf (.tick 1), ?_⟩, exec_running hf .readLy, line_le hi⟩
  by_cases he : s.displayEnabled = true
  · rw [effect, tick_one _ he hf hi]
    exact cycle_line _ hi
  · rw [effect, tick, if_neg he]
    exact .inl rfl

/-! ### A line's Transfer -/

/-- The timeline in numbers: with `b` pixels to discard, the first `b` pops are borrowed and the others move the cursor. -/
theorem OnTimeline.pop_counts {k b : Nat} {t : State} (h : OnTimeline k t) (hd : t.discard + t.borrowed = b) :
    t.cursor = k - 15 - b ∧ t.borrowed = min (k - 15) b := by
  have hpops := h.pops
  rcases Nat.eq_zero_or_pos t.cursor with hzero | hpos
  · omega
  · have hdis := h.order hpos
    omega

/-- The state `k` cycles into the Transfer that was entered from `s` (R117). -/
structure InLine (s : State) (k : Nat) (t : State) : Prop where
  timeline : OnTimeline k t
  line : t.ly = s.ly
  discards : t.discard + t.borrowed = s.scx.toNat % 8
  before : k < 175 + s.scx.toNat % 8 → t.mode = .transfer ∧ t.modeClock = k
  after : k = 175 + s.scx.toNat % 8 → t.mode = .hblank ∧ t.modeClock = 0

/-- A cycle before the end of the line's Transfer: it ends when the cursor reaches 160. -/
theorem InLine.transferCycle (c : Config) {s t : State} {k : Nat} (h : InLine s k t) (hk : k < 175 + s.scx.toNat % 8)
    (hf : (transferCycle c t).fault = none) : InLine s (k + 1) (transferCycle c t) := by
  rw [(transferCycle_fetcher c t).1] at hf
  obtain ⟨htl, hend⟩ := transferCycle_onTimeline c h.timeline hf
  have hdis := (transferCycle_discards c t).trans h.discards
  obtain ⟨hcur, _⟩ := htl.pop_counts hdis
  obtain ⟨hm, hclock⟩ := h.before hk
  refine ⟨htl, (transferCycle_schedule c t).1.trans h.line, hdis, fun hlt => ?_, fun heq => ?_⟩
  · rcases hend with ⟨_, _, h160⟩ | ⟨hm', hclock', _⟩
    · omega
    · exact ⟨hm'.trans hm, by rw [hclock', hclock]⟩
  · rcases hend with ⟨hm', hclock', _⟩ | ⟨_, _, h160⟩
    · exact ⟨hm', hclock'⟩
    · omega

theorem inLine_cycles (c : Config) (s : State) {k : Nat} (hk : k ≤ 175 + s.scx.toNat % 8)
    (hf : (cycles c k (enterTransfer s)).fault = none) : InLine s k (cycles c k (enterTransfer s)) := by
  induction k with
  | zero => exact ⟨onTimeline_enterTransfer s, rfl, rfl, fun _ => ⟨rfl, rfl⟩, fun h => by omega⟩
  | succ k ih =>
    rw [cycles_add c k 1] at hf ⊢
    by_cases hrun : (cycles c k (enterTransfer s)).fault = none
    · have hline := ih (by omega) hrun
      rw [cycles_succ c 0 hrun, cycles_zero, cycle_transfer c (hline.before (by omega)).1] at hf ⊢
      exact hline.transferCycle c (by omega) hf
    · rw [cycles_stopped c 1 hrun] at hf
      exact absurd hf hrun

/-- A running machine answers each TICK, a safe one without a fault; what is left is the state without one. -/
theorem exec_tick_unless_fault {s : State} {n : Nat} {P : State → Prop} (hf : s.fault = none) (hi : s.TimingInv)
    (h : (tick Config.given n s).fault = none → P (tick Config.given n s)) :
    ∃ t, exec (.tick n) s = .next t ∧ (s.fetchSafe → t.fault = none) ∧ (t.fault = none → P t) := by
  refine ⟨_, exec_running hf (.tick n), fun hsafe => ?_, h⟩
  obtain ⟨t, ht, hnone, _⟩ := fetchSafeTicksNeverFault s n hf hi hsafe
  rwa [← (exec_next ht).2]

/-- Settles O26: `inLine_cycles`, with the counts of the timeline in numbers. -/
theorem transferTimeline : Obligations.TransferTimeline := by
  unfold Obligations.TransferTimeline
  intro s k hf he hl hk
  have hi := timing_enterTransfer he hl
  refine exec_tick_unless_fault (s := enterTransfer s) hf hi fun hnone => ?_
  rw [tick_eq_cycles _ k (s := enterTransfer s) he hi.ready] at hnone ⊢
  have h := inLine_cycles Config.given s hk hnone
  obtain ⟨hcur, hbor⟩ := h.timeline.pop_counts h.discards
  refine ⟨h.line, h.timeline.fetcher, h.timeline.column, h.timeline.fifo, hcur, hbor, (Nat.add_comm _ _).trans h.discards,
    h.before, fun heq => ?_⟩
  obtain ⟨hm, hclock⟩ := h.after heq
  refine ⟨hm, hclock, by omega, by omega, ?_⟩
  rw [h.timeline.column, show (k + 1) / 8 = 22 by omega]

end Sys2Proof.Machine
end

section
/-!
Lines and frames (40_scheduler.md R95, R96, R98). A segment leads from every live state in one place of the schedule to a
state in another, unless a fetch fault stops it; segments compose, and a frame is 143 lines, the line that enters VBlank, and
ten VBlank slots.
-/

namespace Sys2Proof.Machine

/-! ### Segments -/

/-- A state that TICK moves: running, with the display enabled, under the timing invariants. -/
structure State.Live (s : State) : Prop where
  running : s.fault = none
  enabled : s.displayEnabled = true
  timing : s.TimingInv

/-- `n` cycles take every live state in `P` to one in `Q`, unless a fault stops them. -/
def Leads (n : Nat) (P Q : State → Prop) : Prop :=
  ∀ s : State, s.Live → P s → (tick Config.given n s).fault = none → Q (tick Config.given n s)

theorem live_tick {n : Nat} {s : State} (h : s.Live) (hf : (tick Config.given n s).fault = none) :
    (tick Config.given n s).Live :=
  ⟨hf, (tick_displayEnabled _ n s).trans h.enabled, timing_tick _ n h.timing⟩

theorem Leads.trans {a b : Nat} {P Q R : State → Prop} (h₁ : Leads a P Q) (h₂ : Leads b Q R) : Leads (a + b) P R := by
  intro s hs hp hf
  rw [tick_add _ a b hs.timing] at hf ⊢
  have hmid : (tick Config.given a s).fault = none := by
    by_contra hne
    rw [tick_stopped _ b (timing_tick _ a hs.timing) hne] at hf
    exact hne hf
  exact h₂ _ (live_tick hs hmid) (h₁ s hs hp hmid) hf

/-- A latch that is set stays set along a segment. -/
theorem Leads.keeps_vblankIrq {n : Nat} {P Q : State → Prop} (h : Leads n P Q) :
    Leads n (fun s => P s ∧ s.vblankIrq = true) (fun t => Q t ∧ t.vblankIrq = true) :=
  fun s hs hp hf => ⟨h s hs hp.1 hf, (vblankIrq_keptByScheduler Config.given).tick n hp.2⟩

/-- What a segment says of a TICK. -/
theorem Leads.exec {n : Nat} {P Q : State → Prop} (h : Leads n P Q) {s : State} (hs : s.Live) (hp : P s) :
    ∃ t, exec (.tick n) s = .next t ∧ (s.fetchSafe → t.fault = none) ∧ (t.fault = none → Q t) :=
  exec_tick_unless_fault hs.running hs.timing (h s hs hp)

/-- A segment from the whole next state of its TICK. -/
theorem leads_of_exec {n : Nat} {P Q : State → Prop}
    (h : ∀ s : State, s.Live → P s → ∃ t, Machine.exec (.tick n) s = .next t ∧ Q t) : Leads n P Q := by
  intro s hs hp _
  obtain ⟨t, ht, hq⟩ := h s hs hp
  obtain ⟨_, rfl⟩ := exec_next ht
  exact hq

/-! ### The segments of a line and of VBlank -/

/-- The start of a mode on line `l`. -/
def Start (m : Mode) (l : Nat) (s : State) : Prop := s.mode = m ∧ s.modeClock = 0 ∧ s.ly.toNat = l

/-- The entry of Transfer on line `l`, with `b` pixels to discard. -/
def Entered (l b : Nat) (t : State) : Prop := ∃ s, t = enterTransfer s ∧ s.ly.toNat = l ∧ s.scx.toNat % 8 = b

/-- Where the line after `l` starts. -/
def modeAfter (l : Nat) : Mode := if l = 143 then .vblank else .search

theorem Start.search_line {s : State} {l : Nat} (hs : s.Live) (h : Start .search l s) : l ≤ 143 := by
  obtain ⟨hm, _, hl⟩ := h
  have := hs.timing.visibleLine (by simp [hm])
  bv_omega

/-- 80 cycles of Search (R81, R85). -/
theorem leads_search (l b : Nat) : Leads 80 (fun s => Start .search l s ∧ s.scx.toNat % 8 = b) (Entered l b) := by
  refine leads_of_exec fun s hs ⟨⟨hm, hc, hl⟩, hb⟩ => ?_
  obtain ⟨_, hreach⟩ := tickInSearch s hs.running hs.enabled hm (by omega)
  rw [hc] at hreach
  exact ⟨_, hreach, s, rfl, hl, hb⟩

/-- 175 + b cycles of Transfer (R117). -/
theorem leads_transfer (l b : Nat) : Leads (175 + b) (Entered l b) (fun t => Start .hblank l t ∧ t.borrowed = b) := by
  rintro _ hs ⟨s, rfl, hl, rfl⟩ hf
  rw [tick_eq_cycles _ _ hs.enabled hs.timing.ready] at hf ⊢
  have h := inLine_cycles Config.given s le_rfl hf
  obtain ⟨hm, hc⟩ := h.after rfl
  exact ⟨⟨hm, hc, by rw [h.line, hl]⟩, by rw [(h.timeline.pop_counts h.discards).2]; omega⟩

/-- 204 − b cycles of HBlank (R83, R87); after line 143 they set the vertical-blank latch (R88). -/
theorem leads_hblank (l b : Nat) : Leads (204 - b) (fun s => Start .hblank l s ∧ s.borrowed = b)
    (fun t => Start (modeAfter l) (l + 1) t ∧ (l = 143 → t.vblankIrq = true)) := by
  refine leads_of_exec fun s hs ⟨⟨hm, hc, hl⟩, hb⟩ => ?_
  have hly : s.ly ≤ 143#8 := hs.timing.visibleLine (by simp [hm])
  have hdis := hs.timing.discards
  obtain ⟨_, hreach⟩ := tickInHBlank s hs.running hs.enabled hm hly (by omega)
  rw [hc, hb] at hreach
  have hlast : s.ly = 143#8 ↔ l = 143 := by rw [← hl]; constructor <;> intro h <;> bv_omega
  refine ⟨_, hreach, ⟨?_, rfl, ?_⟩, fun h => by simp [hlast.2 h]⟩
  · simp only [hlast, modeAfter]
  · show (s.ly + 1#8).toNat = l + 1
    bv_omega

/-- A visible line, 459 cycles whatever its number of borrowed cycles (R95). -/
theorem leads_line (l : Nat) : Leads 459 (Start .search l)
    (fun t => Start (modeAfter l) (l + 1) t ∧ (l = 143 → t.vblankIrq = true)) := by
  intro s hs hp
  have hb : s.scx.toNat % 8 < 8 := Nat.mod_lt _ (by omega)
  have h := ((leads_search l (s.scx.toNat % 8)).trans (leads_transfer l _)).trans (leads_hblank l _) s hs ⟨hp, rfl⟩
  rwa [show 80 + (175 + s.scx.toNat % 8) + (204 - s.scx.toNat % 8) = 459 by omega] at h

/-- A visible line above line 143 leads to the next one. -/
theorem leads_visible_line {l : Nat} (h : l < 143) : Leads 459 (Start .search l) (Start .search (l + 1)) := by
  have hm : modeAfter l = .search := if_neg (by omega)
  exact fun s hs hp hf => hm ▸ (leads_line l s hs hp hf).1

/-- `n` visible lines that end above VBlank. -/
theorem leads_lines {l n : Nat} (h : l + n ≤ 143) : Leads (459 * n) (Start .search l) (Start .search (l + n)) := by
  induction n with
  | zero =>
    intro s _ hp _
    rwa [Nat.mul_zero, tick_zero]
  | succ n ih => exact (ih (by omega)).trans (leads_visible_line (by omega))

/-- A VBlank slot of line 144 to 151 (R90). -/
theorem leads_slot {l : Nat} (hlo : 144 ≤ l) (hhi : l < 152) : Leads 456 (Start .vblank l) (Start .vblank (l + 1)) := by
  refine leads_of_exec fun s hs ⟨hm, hc, hl⟩ => ?_
  obtain ⟨_, _, _, hnext⟩ := tickInVBlank s hs.running hs.enabled hm (by omega)
  rw [hc] at hnext
  refine ⟨_, hnext (by bv_omega) (by bv_omega), hm, rfl, ?_⟩
  show (s.ly + 1#8).toNat = l + 1
  bv_omega

theorem leads_slots {n : Nat} (h : n ≤ 8) : Leads (456 * n) (Start .vblank 144) (Start .vblank (144 + n)) := by
  induction n with
  | zero =>
    intro s _ hp _
    rwa [Nat.mul_zero, tick_zero]
  | succ n ih => exact (ih (by omega)).trans (leads_slot (by omega) (by omega))

/-- The slot of line 152 leads to the slot that reads as line 0. -/
theorem leads_last_slot : Leads 456 (Start .vblank 152) (Start .vblank 0) := by
  refine leads_of_exec fun s hs ⟨hm, hc, hl⟩ => ?_
  obtain ⟨_, _, h152, _⟩ := tickInVBlank s hs.running hs.enabled hm (by omega)
  rw [hc] at h152
  exact ⟨_, h152 (BitVec.eq_of_toNat_eq hl), hm, rfl, rfl⟩

/-- The slot that reads as line 0 ends the frame. -/
theorem leads_slot_zero : Leads 456 (Start .vblank 0) (Start .search 0) := by
  refine leads_of_exec fun s hs ⟨hm, hc, hl⟩ => ?_
  obtain ⟨_, hzero, _, _⟩ := tickInVBlank s hs.running hs.enabled hm (by omega)
  rw [hc] at hzero
  exact ⟨_, hzero (BitVec.eq_of_toNat_eq hl), rfl, rfl, hl⟩

/-- The ten slots of VBlank. -/
theorem leads_vblank : Leads 4560 (Start .vblank 144) (Start .search 0) :=
  ((leads_slots (n := 8) le_rfl).trans leads_last_slot).trans leads_slot_zero

/-- From line `l` to the end of the frame: the visible lines from it on, and VBlank, entered with its latch. -/
theorem leads_frame_end {l n : Nat} (h : l + n = 143) :
    Leads (459 * n + 459 + 4560) (Start .search l) (fun t => Start .search 0 t ∧ t.vblankIrq = true) := by
  have hlines : Leads (459 * n) (Start .search l) (Start .search 143) := h ▸ leads_lines h.le
  have hlast : Leads 459 (Start .search 143) (fun t => Start .vblank 144 t ∧ t.vblankIrq = true) :=
    fun s hs hp hf => ⟨(leads_line 143 s hs hp hf).1, (leads_line 143 s hs hp hf).2 rfl⟩
  exact (hlines.trans hlast).trans leads_vblank.keeps_vblankIrq

/-! ### The obligations -/

/-- Settles O27: the segments of a line, from the line and the discards of the state at hand. -/
theorem visibleLineLength : Obligations.VisibleLineLength := by
  unfold Obligations.VisibleLineLength
  intro s hf hi he hm hc
  have hs : s.Live := ⟨hf, he, hi⟩
  have hp : Start .search s.ly.toNat s := ⟨hm, hc, rfl⟩
  refine ⟨?_, ?_, ?_⟩
  · obtain ⟨_, hreach⟩ := tickInSearch s hf he hm (by omega)
    rw [hc] at hreach
    exact ⟨_, hreach, rfl, rfl, rfl⟩
  · obtain ⟨t, ht, hsafe, hend⟩ := ((leads_search s.ly.toNat _).trans (leads_transfer s.ly.toNat _)).exec hs ⟨hp, rfl⟩
    refine ⟨t, ht, hsafe, fun hnone => ?_⟩
    obtain ⟨⟨hm', hc', hl'⟩, hb⟩ := hend hnone
    exact ⟨hm', hc', BitVec.eq_of_toNat_eq hl', hb⟩
  · obtain ⟨t, ht, hsafe, hend⟩ := (leads_line s.ly.toNat).exec hs hp
    refine ⟨t, ht, hsafe, fun hnone => ?_⟩
    obtain ⟨⟨hm', hc', hl'⟩, _⟩ := hend hnone
    have hlast : s.ly = 143#8 ↔ s.ly.toNat = 143 := by constructor <;> intro h <;> bv_omega
    exact ⟨hc', by bv_omega, by rw [hm', modeAfter]; simp only [hlast]⟩

/-- Settles O28: 143 lines, the line that enters VBlank, and VBlank. -/
theorem frameLength : Obligations.FrameLength := by
  unfold Obligations.FrameLength
  intro s hf hi he hm hc hl
  obtain ⟨t, ht, hsafe, hend⟩ := (leads_frame_end (l := 0) (n := 143) rfl).exec ⟨hf, he, hi⟩ ⟨hm, hc, by rw [hl]; rfl⟩
  refine ⟨t, ht, hsafe, fun hnone => ?_⟩
  obtain ⟨⟨hm', hc', hl'⟩, hirq⟩ := hend hnone
  exact ⟨hm', hc', BitVec.eq_of_toNat_eq hl', hirq⟩

/-- Settles O29: the HBlank of line 0 with nothing borrowed, and then the frame from line 1 on. -/
theorem firstFrameAfterEnable : Obligations.FirstFrameAfterEnable := by
  unfold Obligations.FirstFrameAfterEnable
  intro s hf hi he hm hc hl hb
  have hp : Start .hblank 0 s ∧ s.borrowed = 0 := ⟨⟨hm, hc, by rw [hl]; rfl⟩, hb⟩
  have hfirst : Leads 204 (fun s => Start .hblank 0 s ∧ s.borrowed = 0) (Start .search 1) :=
    fun s hs hp hf => (leads_hblank 0 0 s hs hp hf).1
  refine ⟨?_, ?_⟩
  · obtain ⟨_, hreach⟩ := tickInHBlank s hf he hm (by simp [hl]) (by omega)
    rw [hc, hb] at hreach
    exact ⟨_, hreach, hf, by simp [hl], rfl, by simp [hl]⟩
  · obtain ⟨t, ht, hsafe, hend⟩ := (hfirst.trans (leads_frame_end (l := 1) (n := 142) rfl)).exec ⟨hf, he, hi⟩ hp
    refine ⟨t, ht, hsafe, fun hnone => ?_⟩
    obtain ⟨⟨hm', hc', hl'⟩, _⟩ := hend hnone
    exact ⟨hm', hc', BitVec.eq_of_toNat_eq hl'⟩

end Sys2Proof.Machine
end

section
/-!
The pixel that a cycle emits (41_pixel_pipeline.md R114, 20_memory.md R54): a cycle whose FIFO step emits is one write of the
framebuffer.
-/

namespace Sys2Proof.Machine

/-- The bookkeeping of a Transfer cycle leaves the cursor and the framebuffer. -/
theorem closeTransferCycle_screen (s : State) :
    (closeTransferCycle s).cursor = s.cursor ∧ (closeTransferCycle s).fb = s.fb := by
  rcases closeTransferCycle_cases s with ⟨_, h⟩ | ⟨_, h⟩ <;> rw [h]
  · rw [enterHBlank_eq]
    exact ⟨rfl, rfl⟩
  · exact ⟨rfl, rfl⟩

/-- A cycle of Transfer whose FIFO step emits the index `v`. -/
theorem transferCycle_emits (c : Config) {s : State} {v : ColorIndex} {rest : List ColorIndex}
    (hf : (fetcherStep s).fault = none) (hfifo : (fetcherStep s).fifo = v :: rest) (hlen : 8 ≤ rest.length)
    (hd : s.discard = 0) :
    (transferCycle c s).cursor = s.cursor + 1 ∧
      (transferCycle c s).fb = fbWrite s.fb s.cursor s.ly.toNat (monoResolve c s.bgp v) := by
  have hframe : fetcherStep s = _ := fetcherStep_frame s
  have hdis : (fetcherStep s).discard = 0 := by rw [hframe]; exact hd
  have hgt : 8 < (fetcherStep s).fifo.length := by rw [hfifo, List.length_cons]; omega
  have hemit := (fifoSteps c (fetcherStep s) v rest).2.2 hgt hfifo hdis
  obtain ⟨hcur, hfb⟩ := closeTransferCycle_screen (fifoStep c (fetcherStep s))
  rw [transferCycle_running c hf, hcur, hfb, hemit, hframe]
  exact ⟨rfl, rfl⟩

/-- Settles O37: the cycle is one `fbWrite` at (cursor, ly), whose reads the framebuffer lemmas give. -/
theorem emittedPixel : Obligations.EmittedPixel := by
  unfold Obligations.EmittedPixel
  intro s v rest hrun hmem he hm hly hcur hf hfifo hlen hd
  obtain ⟨hcur', hfb⟩ := transferCycle_emits Config.given hf hfifo hlen hd
  refine ⟨_, by rw [exec_running hrun, effect, tick_one_transfer _ he hrun hm], hcur', ?_, fun x y hx _ hne => ?_,
    fun a ha => ?_⟩ <;> rw [hfb]
  · exact fbRead_fbWrite_same hmem.fb.1 _ _ _
  · exact fbRead_fbWrite_other hmem.fb.1 _ hcur hx hne
  · exact read_fbWrite_other hmem.fb.1 _ _ _ (by unfold fbIndex; omega)

end Sys2Proof.Machine
end

section
/-!
Single steps (44_host_interface.md R173, 60_exceptions.md R174): what a step runs, refuses or repeats; with the words written
out from the encoding, and the invariants at power-on.
-/

namespace Sys2Proof.Machine

/-- Settles O5: the written-out words are decoded by the decoder itself. -/
theorem specWordsDecode : Obligations.SpecWordsDecode := by
  unfold Obligations.SpecWordsDecode
  decide

/-- Settles O7: a step hands the oldest request's operation the state without the request. -/
theorem stepRunsTheDecodedRequest : Obligations.StepRunsTheDecodedRequest := by
  unfold Obligations.StepRunsTheDecodedRequest
  refine ⟨fun s r rest i hf hq hi => ?_, fun s hf hq => ?_⟩
  · simp only [step, hf, takeRequest_some hq, hi]
  · simp only [step, hf, takeRequest_none hq]

/-- Settles O8: a step looks at the recorded fault first, and so does every operation. -/
theorem faultStopsEveryOperation : Obligations.FaultStopsEveryOperation := by
  unfold Obligations.FaultStopsEveryOperation
  intro s f hf
  exact ⟨by simp only [step, hf], exec_stopped hf⟩

/-- Settles O10: the memories are empty, and the mode is not Transfer. -/
theorem powerOnMeetsTheInvariants : Obligations.PowerOnMeetsTheInvariants := by
  unfold Obligations.PowerOnMeetsTheInvariants
  have hempty (n : Nat) : Memory.wf [] ∧ Memory.within n [] := ⟨Memory.wf_nil, by simp [Memory.within]⟩
  exact ⟨reset_timing, ⟨hempty _, hempty _, hempty _, hempty _, hempty _, hempty _⟩,
    (pipelineInStep_iff _).2 (nomatch ·), rfl⟩

end Sys2Proof.Machine
end

section
/-!
What cannot be told apart (41_pixel_pipeline.md R115, R116; 44_host_interface.md R168, R171, R172). Two runs of TICK go in
lockstep when the scheduler sees the same mode, clock, length, fault and display enable in both: then it takes the same turns,
and a relation between the two states that each of its steps keeps is kept by the TICK. Three relations are run this way:
equality under two configurations, a replacement of the storage no step uses, and a replacement of the hidden pipeline.
-/

namespace Sys2Proof.Machine

/-! ### Two runs in lockstep -/

/-- A relation that fixes what the scheduler looks at, and that each thing it does keeps, in the mode it does it in. -/
structure Lockstep (c c' : Config) (R : State → State → Prop) : Prop where
  control : ∀ {s s'}, R s s' → s'.mode = s.mode ∧ s'.modeClock = s.modeClock ∧ s'.borrowed = s.borrowed ∧
    s'.fault = s.fault ∧ s'.displayEnabled = s.displayEnabled
  clock : ∀ {s s'} (k : Nat), R s s' → R { s with modeClock := k } { s' with modeClock := k }
  transferCycle : ∀ {s s'}, s.mode = .transfer → R s s' → R (transferCycle c s) (transferCycle c' s')
  enterTransfer : ∀ {s s'}, s.mode = .search → R s s' → R (enterTransfer s) (enterTransfer s')
  endHBlank : ∀ {s s'}, s.mode = .hblank → R s s' → R (endHBlank s) (endHBlank s')
  vblankSlotEnd : ∀ {s s'}, s.mode = .vblank → R s s' → R (vblankSlotEnd s) (vblankSlotEnd s')

/-- Both runs of a handler leave the same budget, and related states. -/
def SameTurn (R : State → State → Prop) (r r' : Nat × State) : Prop := r'.1 = r.1 ∧ R r.2 r'.2

section
variable {c c' : Config} {R : State → State → Prop} (hl : Lockstep c c' R)
include hl

theorem Lockstep.timedHandler {s s' : State} {m : Mode} {tr : State → State}
    (htr : ∀ {s s'}, s.mode = m → R s s' → R (tr s) (tr s')) (hm : s.mode = m) (len b : Nat) (h : R s s') :
    SameTurn R (timedHandler len tr b s) (timedHandler len tr b s') := by
  obtain ⟨_, hclock, _⟩ := hl.control h
  have hadvance (k : Nat) := hl.clock k h
  unfold Machine.timedHandler SameTurn
  simp only [hclock]
  refine ⟨trivial, ?_⟩
  split
  · exact htr hm (hadvance _)
  · exact hadvance _

theorem Lockstep.transferHandler (b : Nat) {s s' : State} (hm : s.mode = .transfer) (h : R s s') :
    SameTurn R (transferHandler c b s) (transferHandler c' b s') := by
  induction b generalizing s s' with
  | zero => exact ⟨rfl, h⟩
  | succ b ih =>
    have hnext := hl.transferCycle hm h
    obtain ⟨hmode, _, _, hfault, _⟩ := hl.control hnext
    rw [Machine.transferHandler, Machine.transferHandler]
    simp only [hmode, hfault]
    split
    · next hgo => exact ih hgo.1 hnext
    · exact ⟨rfl, hnext⟩

theorem Lockstep.modeHandler (b : Nat) {s s' : State} (h : R s s') :
    SameTurn R (modeHandler c b s) (modeHandler c' b s') := by
  obtain ⟨hmode, _, hborrowed, _⟩ := hl.control h
  cases hm : s.mode with
  | search =>
    rw [modeHandler_search c b hm, modeHandler_search c' b (hmode.trans hm)]
    exact hl.timedHandler hl.enterTransfer hm _ b h
  | transfer =>
    rw [modeHandler_transfer c b hm, modeHandler_transfer c' b (hmode.trans hm)]
    exact hl.transferHandler b hm h
  | hblank =>
    have hlen : hblankLength s' = hblankLength s := by rw [hblankLength, hblankLength, hborrowed]
    rw [modeHandler_hblank c b hm, modeHandler_hblank c' b (hmode.trans hm), hlen]
    exact hl.timedHandler hl.endHBlank hm _ b h
  | vblank =>
    rw [modeHandler_vblank c b hm, modeHandler_vblank c' b (hmode.trans hm)]
    exact hl.timedHandler hl.vblankSlotEnd hm _ b h

theorem Lockstep.tickLoop (turns b : Nat) {s s' : State} (h : R s s') : R (tickLoop c turns b s) (tickLoop c' turns b s') := by
  induction turns generalizing b s s' with
  | zero => exact h
  | succ turns ih =>
    obtain ⟨_, _, _, hfault, _⟩ := hl.control h
    obtain ⟨hbudget, hnext⟩ := hl.modeHandler b h
    rw [Machine.tickLoop, Machine.tickLoop, hfault]
    split
    · exact h
    · simp only [hbudget]
      exact ih _ hnext

theorem Lockstep.tick (n : Nat) {s s' : State} (h : R s s') : R (tick c n s) (tick c' n s') := by
  obtain ⟨_, _, _, _, henabled⟩ := hl.control h
  unfold Machine.tick
  rw [henabled]
  split
  · exact hl.tickLoop _ n h
  · exact h

end

/-! ### Two configurations -/

/-- Of the configuration a cycle uses the shade table only (R116). -/
theorem transferCycle_shades {c c' : Config} (h : c.monoShade = c'.monoShade) (s : State) :
    transferCycle c s = transferCycle c' s := by
  have hfifo : fifoStep c = fifoStep c' := by
    funext s
    simp only [fifoStep, emitPop, monoResolve, h]
  rw [transferCycle, transferCycle, pseudoCycle, pseudoCycle, hfifo]

/-- Settles O58: the two runs go in lockstep on equal states. -/
theorem tickIgnoresColorMode : Obligations.TickIgnoresColorMode := by
  unfold Obligations.TickIgnoresColorMode
  intro c c' n s h
  have hl : Lockstep c c' fun s s' => s = s' :=
    { control := fun h => h ▸ ⟨rfl, rfl, rfl, rfl, rfl⟩
      clock := fun _ h => h ▸ rfl
      transferCycle := fun _ heq => heq ▸ transferCycle_shades h _
      enterTransfer := fun _ h => h ▸ rfl
      endHBlank := fun _ h => h ▸ rfl
      vblankSlotEnd := fun _ h => h ▸ rfl }
  exact hl.tick n rfl

/-! ### Replacements that the pipeline does not see -/

section
variable {g : State → State} {s : State}

/-- A FIFO step commutes with a replacement that leaves the FIFO and the discard count and that both pops commute with. -/
theorem fifoStep_commutes {c : Config} (hfifo : (g s).fifo = s.fifo) (hdiscard : (g s).discard = s.discard)
    (hpop : discardPop (g s) = g (discardPop s)) (hemit : emitPop c (g s) = g (emitPop c s)) :
    fifoStep c (g s) = g (fifoStep c s) := by
  unfold fifoStep
  rw [hfifo, hdiscard, hpop, hemit, apply_ite g, apply_ite g]

/-- The bookkeeping of a Transfer cycle commutes with a replacement that leaves the cursor and that its two outcomes commute
with. -/
theorem closeTransferCycle_commutes (hcursor : (g s).cursor = s.cursor)
    (hclock : { g s with modeClock := (g s).modeClock + 1 } = g { s with modeClock := s.modeClock + 1 })
    (hleave : ∀ t, enterHBlank (g t) = g (enterHBlank t)) : closeTransferCycle (g s) = g (closeTransferCycle s) := by
  rcases closeTransferCycle_cases s with ⟨hcur, h⟩ | ⟨hcur, h⟩ <;> rw [h]
  · rw [← hleave, ← hclock]
    exact if_pos (hcursor.trans hcur)
  · rw [← hclock]
    exact if_neg (hcursor ▸ hcur)

end

/-! ### The storage that no step uses -/

/-- LCDC bits 7, 4 and 3 are not part of the unused storage. -/
theorem bit_withStorageOf (s u : State) :
    bit (s.withStorageOf u).lcdc 7 = bit s.lcdc 7 ∧ bit (s.withStorageOf u).lcdc 4 = bit s.lcdc 4 ∧
      bit (s.withStorageOf u).lcdc 3 = bit s.lcdc 3 := by
  simp [State.withStorageOf, bit]

theorem mapAddr_withStorageOf (s u : State) : mapAddr (s.withStorageOf u) = mapAddr s := by
  unfold mapAddr mapBase
  rw [(bit_withStorageOf s u).2.2]
  rfl

theorem lowAddr_withStorageOf (s u : State) : lowAddr (s.withStorageOf u) = lowAddr s := by
  unfold lowAddr tileAddr
  rw [(bit_withStorageOf s u).2.1]
  rfl

/-- A fetch from bank 0 does not see the storage. -/
theorem fetchByte_withStorageOf (s u : State) (a : Nat) {use use' : Byte → State}
    (h : ∀ v, use' v = (use v).withStorageOf u) :
    fetchByte (s.withStorageOf u) a use' = (fetchByte s a use).withStorageOf u := by
  have hfetch : vramFetch (s.withStorageOf u) a = vramFetch s a := rfl
  unfold fetchByte
  rw [hfetch]
  cases vramFetch s a with
  | error f => rfl
  | ok v => exact h v

theorem fetcherStep_withStorageOf (s u : State) : fetcherStep (s.withStorageOf u) = (fetcherStep s).withStorageOf u := by
  have hst : (s.withStorageOf u).fstate = s.fstate := rfl
  unfold fetcherStep
  rw [hst]
  cases s.fstate with
  | idle next => rfl
  | readTile =>
    simp only [readTileStep, mapAddr_withStorageOf]
    exact fetchByte_withStorageOf s u _ fun _ => rfl
  | readLow =>
    simp only [readLowStep, lowAddr_withStorageOf]
    exact fetchByte_withStorageOf s u _ fun _ => rfl
  | readHigh =>
    simp only [readHighStep, highAddr_eq, lowAddr_withStorageOf]
    exact fetchByte_withStorageOf s u _ fun _ => rfl
  | push phase =>
    cases phase with
    | advance => rfl
    | commit =>
      simp only [commitStep, apply_ite (State.withStorageOf · u)]
      rfl

theorem fifoStep_withStorageOf (c : Config) (s u : State) :
    fifoStep c (s.withStorageOf u) = (fifoStep c s).withStorageOf u :=
  fifoStep_commutes (g := (State.withStorageOf · u)) rfl rfl rfl rfl

/-- Going on after a step commutes with the replacement when the next step does. -/
theorem andThen_withStorageOf (s u : State) {next : State → State}
    (h : ∀ s : State, next (s.withStorageOf u) = (next s).withStorageOf u) :
    (s.withStorageOf u).andThen next = (s.andThen next).withStorageOf u := by
  by_cases hf : s.fault = none
  · rw [andThen_running hf, andThen_running (s := s.withStorageOf u) hf, h]
  · rw [andThen_stopped hf, andThen_stopped (s := s.withStorageOf u) hf]

theorem closeTransferCycle_withStorageOf (s u : State) :
    closeTransferCycle (s.withStorageOf u) = (closeTransferCycle s).withStorageOf u :=
  closeTransferCycle_commutes (g := (State.withStorageOf · u)) rfl rfl fun t => by
    rw [enterHBlank_eq, enterHBlank_eq]
    rfl

theorem transferCycle_withStorageOf (c : Config) (s u : State) :
    transferCycle c (s.withStorageOf u) = (transferCycle c s).withStorageOf u := by
  rw [transferCycle, transferCycle, pseudoCycle, pseudoCycle, fetcherStep_withStorageOf,
    andThen_withStorageOf _ u fun s => fifoStep_withStorageOf c s u,
    andThen_withStorageOf _ u fun s => closeTransferCycle_withStorageOf s u]

theorem storage_lockstep (c : Config) (u : State) : Lockstep c c fun s s' => s' = s.withStorageOf u where
  control := by
    rintro s _ rfl
    exact ⟨rfl, rfl, rfl, rfl, (bit_withStorageOf s u).1⟩
  clock := by
    rintro s _ k rfl
    rfl
  transferCycle := by
    rintro s _ _ rfl
    exact transferCycle_withStorageOf c s u
  enterTransfer := by
    rintro s _ _ rfl
    rfl
  endHBlank := by
    rintro s _ _ rfl
    rw [endHBlank_update, endHBlank_update]
    rfl
  vblankSlotEnd := by
    rintro s _ _ rfl
    rw [vblankSlotEnd_update, vblankSlotEnd_update]
    rfl

/-- Settles O57: the run with other storage goes in lockstep with the given one. -/
theorem tickIgnoresUnusedStorage : Obligations.TickIgnoresUnusedStorage := by
  unfold Obligations.TickIgnoresUnusedStorage
  intro n s t u h
  obtain ⟨hf, rfl⟩ := exec_next h
  rw [exec_running (s := s.withStorageOf u) hf]
  exact congrArg _ ((storage_lockstep Config.given u).tick n rfl)

end Sys2Proof.Machine
end

section
/-!
The hidden pipeline (10_state.md R44, 44_host_interface.md R171). Outside Transfer all of it may be replaced, since the entry of
Transfer starts it afresh. The entry keeps the three latches, so inside Transfer they may still differ, each until the
fetcher has read it anew. This relation goes in lockstep through TICK and is kept by every other operation.
-/

namespace Sys2Proof.Machine

/-! ### The relation -/

/-- `s` with other latches. -/
def State.withLatches (s : State) (idx lo hi : Byte) : State := { s with tileIdx := idx, lo := lo, hi := hi }

/-- The fetcher has read the low plane of the tile in progress and not yet pushed its pixels (R100). -/
def holdsLowPlane : FetcherState → Bool
  | .idle .high | .readHigh | .push _ => true
  | .idle .tile | .readTile | .idle .low | .readLow => false

/-- It has read both planes. -/
def holdsHighPlane : FetcherState → Bool
  | .push _ => true
  | .idle _ | .readTile | .readLow | .readHigh => false

/-- Other latches stand only where the fetcher has yet to read them for the tile in progress. -/
structure LatchesUnread (s : State) (idx lo hi : Byte) : Prop where
  idx : holdsTileNumber s.fstate = true → idx = s.tileIdx
  lo : holdsLowPlane s.fstate = true → lo = s.lo
  hi : holdsHighPlane s.fstate = true → hi = s.hi

/-- The two states differ in what the host cannot see. -/
def Hidden (s s' : State) : Prop :=
  (s.mode = .transfer ∧ ∃ idx lo hi, LatchesUnread s idx lo hi ∧ s' = s.withLatches idx lo hi) ∨
    (s.mode ≠ .transfer ∧ ∃ u, s' = s.withPipelineOf u)

/-- Replacing latches is a replacement of the pipeline. -/
theorem withLatches_eq (s : State) (idx lo hi : Byte) :
    s.withLatches idx lo hi = s.withPipelineOf (s.withLatches idx lo hi) := rfl

theorem Hidden.pipeline {s s' : State} (h : Hidden s s') : ∃ u, s' = s.withPipelineOf u := by
  rcases h with ⟨_, idx, lo, hi, _, rfl⟩ | ⟨_, h⟩
  · exact ⟨_, withLatches_eq s idx lo hi⟩
  · exact h

/-- States in the relation with the mode at hand: outside Transfer nothing more is asked. -/
theorem hidden_of_latches {s : State} {idx lo hi : Byte} (h : LatchesUnread s idx lo hi) :
    Hidden s (s.withLatches idx lo hi) := by
  by_cases hm : s.mode = .transfer
  · exact .inl ⟨hm, idx, lo, hi, h, rfl⟩
  · exact .inr ⟨hm, _, withLatches_eq s idx lo hi⟩

/-! ### TICK -/

/-- The fetcher uses a latch only after it has read its byte from video memory for the tile in progress. -/
theorem fetcherStep_withLatches {s : State} {idx lo hi : Byte} (h : LatchesUnread s idx lo hi) :
    ∃ idx' lo' hi', LatchesUnread (fetcherStep s) idx' lo' hi' ∧
      fetcherStep (s.withLatches idx lo hi) = (fetcherStep s).withLatches idx' lo' hi' := by
  obtain ⟨hidx, hlo, hhi⟩ := h
  obtain ⟨hidle, htile, hlow, hlowFault, hhigh, hhighFault, hadvance, hcommit, hstall⟩ :=
    fetcherSteps (s.withLatches idx lo hi)
  rcases fetcherStep_cases s with ⟨next, hst, hs⟩ | ⟨hst, hs⟩ | ⟨hst, ha, hs⟩ | ⟨hst, ha, hs⟩ | ⟨hst, ha, hs⟩ |
    ⟨hst, ha, hs⟩ | ⟨hst, hs⟩ | ⟨hst, hroom, hs⟩ | ⟨hst, hfull, hs⟩ <;> rw [hs] <;> rw [hst] at hidx hlo hhi
  · refine ⟨idx, lo, hi, ?_, (hidle next hst).trans ?_⟩
    · cases next <;> exact ⟨hidx, hlo, hhi⟩
    · cases next <;> rfl
  · exact ⟨_, lo, hi, ⟨fun _ => rfl, hlo, hhi⟩, htile hst⟩
  · obtain rfl := hidx rfl
    exact ⟨_, _, hi, ⟨fun _ => rfl, fun _ => rfl, hhi⟩, hlow hst ha⟩
  · obtain rfl := hidx rfl
    exact ⟨_, lo, hi, ⟨fun _ => rfl, fun hl => hlo (hst ▸ hl), fun hh => hhi (hst ▸ hh)⟩, hlowFault hst ha⟩
  · obtain rfl := hidx rfl
    obtain rfl := hlo rfl
    exact ⟨_, _, _, ⟨fun _ => rfl, fun _ => rfl, fun _ => rfl⟩, hhigh hst ha⟩
  · obtain rfl := hidx rfl
    obtain rfl := hlo rfl
    exact ⟨_, _, hi, ⟨fun _ => rfl, fun _ => rfl, fun hh => hhi (hst ▸ hh)⟩, hhighFault hst ha⟩
  · exact ⟨idx, lo, hi, ⟨hidx, hlo, hhi⟩, (hadvance hst).trans (by rw [← fcol_succ]; rfl)⟩
  · obtain rfl := hlo rfl
    obtain rfl := hhi rfl
    exact ⟨idx, _, _, ⟨(nomatch ·), fun _ => rfl, fun _ => rfl⟩, hcommit hst hroom⟩
  · rw [← hst] at hidx hlo hhi
    exact ⟨idx, lo, hi, ⟨hidx, hlo, hhi⟩, hstall hst hfull⟩

/-- After the fetcher step a cycle of Transfer neither uses nor changes a latch. -/
theorem fifoStep_withLatches (c : Config) (s : State) (idx lo hi : Byte) :
    fifoStep c (s.withLatches idx lo hi) = (fifoStep c s).withLatches idx lo hi :=
  fifoStep_commutes (g := (State.withLatches · idx lo hi)) rfl rfl rfl rfl

theorem closeTransferCycle_withLatches (s : State) (idx lo hi : Byte) :
    closeTransferCycle (s.withLatches idx lo hi) = (closeTransferCycle s).withLatches idx lo hi :=
  closeTransferCycle_commutes (g := (State.withLatches · idx lo hi)) rfl rfl fun t => by
    rw [enterHBlank_eq, enterHBlank_eq]
    rfl

/-- What the fetcher still has to read depends on the fetcher's state and the latches alone. -/
theorem LatchesUnread.congr {s t : State} {idx lo hi : Byte} (h : LatchesUnread s idx lo hi) (hst : t.fstate = s.fstate)
    (hidx : t.tileIdx = s.tileIdx) (hlo : t.lo = s.lo) (hhi : t.hi = s.hi) : LatchesUnread t idx lo hi := by
  constructor
  · rw [hst, hidx]; exact h.idx
  · rw [hst, hlo]; exact h.lo
  · rw [hst, hhi]; exact h.hi

theorem transferCycle_hidden (c : Config) {s s' : State} (hm : s.mode = .transfer) (h : Hidden s s') :
    Hidden (transferCycle c s) (transferCycle c s') := by
  rcases h with ⟨_, idx, lo, hi, hunread, rfl⟩ | ⟨hne, _⟩
  · obtain ⟨idx', lo', hi', hunread', hstep⟩ := fetcherStep_withLatches hunread
    by_cases hf : (fetcherStep s).fault = none
    · have hf' : (fetcherStep (s.withLatches idx lo hi)).fault = none := by rw [hstep]; exact hf
      rw [transferCycle_running c hf, transferCycle_running c hf', hstep, fifoStep_withLatches,
        closeTransferCycle_withLatches]
      refine hidden_of_latches ?_
      rcases closeTransferCycle_cases (fifoStep c (fetcherStep s)) with ⟨_, hclose⟩ | ⟨_, hclose⟩ <;> rw [hclose]
      · rw [enterHBlank_eq, fifoStep_frame]
        exact hunread'.congr rfl rfl rfl rfl
      · rw [fifoStep_frame]
        exact hunread'.congr rfl rfl rfl rfl
    · have hf' : (fetcherStep (s.withLatches idx lo hi)).fault ≠ none := by rw [hstep]; exact hf
      rw [transferCycle_faulted c hf, transferCycle_faulted c hf', hstep]
      exact hidden_of_latches hunread'
  · exact absurd hm hne

theorem hidden_lockstep (c : Config) : Lockstep c c Hidden where
  control h := by
    obtain ⟨u, rfl⟩ := h.pipeline
    exact ⟨rfl, rfl, rfl, rfl, rfl⟩
  clock k h := by
    rcases h with ⟨hm, idx, lo, hi, hunread, rfl⟩ | ⟨hm, u, rfl⟩
    · exact .inl ⟨hm, idx, lo, hi, hunread.congr rfl rfl rfl rfl, rfl⟩
    · exact .inr ⟨hm, u, rfl⟩
  transferCycle := transferCycle_hidden c
  enterTransfer _ h := by
    obtain ⟨u, rfl⟩ := h.pipeline
    exact .inl ⟨rfl, u.tileIdx, u.lo, u.hi, ⟨(nomatch ·), (nomatch ·), (nomatch ·)⟩, rfl⟩
  endHBlank _ h := by
    obtain ⟨u, rfl⟩ := h.pipeline
    refine .inr ⟨(endHBlank_frame _).1, u, ?_⟩
    rw [endHBlank_update, endHBlank_update]
    rfl
  vblankSlotEnd hm h := by
    obtain ⟨u, rfl⟩ := h.pipeline
    refine .inr ⟨(vblankSlotEnd_frame (by simp [hm])).1, u, ?_⟩
    rw [vblankSlotEnd_update, vblankSlotEnd_update]
    rfl

/-! ### The other operations -/

theorem setVram_withPipelineOf (s u : State) (b : BitVec 1) (m : Memory) :
    (s.withPipelineOf u).setVram b m = (s.setVram b m).withPipelineOf u := by
  rw [State.setVram, State.setVram, apply_ite (State.withPipelineOf · u)]
  rfl

theorem vramWrite_withPipelineOf (c : Config) (a : Addr) (d : Byte) (s u : State) :
    vramWrite c a d (s.withPipelineOf u) = (vramWrite c a d s).withPipelineOf u := by
  rw [vramWrite, vramWrite, apply_ite (State.withPipelineOf · u), setVram_withPipelineOf]
  rfl

theorem oamWrite_withPipelineOf (a : Addr) (d : Byte) (s u : State) :
    oamWrite a d (s.withPipelineOf u) = (oamWrite a d s).withPipelineOf u := by
  rw [oamWrite, oamWrite, apply_ite (State.withPipelineOf · u)]
  rfl

theorem writeLcdc_withPipelineOf (d : Byte) (s u : State) :
    writeLcdc d (s.withPipelineOf u) = (writeLcdc d s).withPipelineOf u := by
  rw [writeLcdc, writeLcdc, apply_ite (State.withPipelineOf · u)]
  rfl

/-- Beside TICK no operation looks at the hidden pipeline. -/
theorem effect_withPipelineOf {i : Instr} (hi : ∀ n, i ≠ .tick n) (s u : State) :
    effect i (s.withPipelineOf u) = (effect i s).withPipelineOf u := by
  cases i with
  | tick n => exact absurd rfl (hi n)
  | writeVram a d => exact vramWrite_withPipelineOf _ a d s u
  | writeOam a d => exact oamWrite_withPipelineOf a d s u
  | writeLcdc d => exact writeLcdc_withPipelineOf d s u
  | _ => rfl

/-- Beside TICK an operation that leaves the machine in Transfer found it there, and leaves the pipeline as it is. -/
theorem effect_in_transfer {i : Instr} (hi : ∀ n, i ≠ .tick n) {s : State} (hm : (effect i s).mode = .transfer) :
    s.mode = .transfer ∧ (effect i s).withPipelineOf s = effect i s := by
  rcases effect_pipeline_cases i s with ⟨n, rfl⟩ | ⟨d, rfl⟩ | hsame
  · exact absurd rfl (hi n)
  · rcases writeLcdc_cases d s with ⟨_, _, hw⟩ | ⟨_, hw⟩ <;> rw [effect, hw] at hm ⊢
    · cases hm
    · exact ⟨hm, rfl⟩
  · rw [hsame] at hm ⊢
    exact ⟨hm, rfl⟩

/-- Every operation keeps the relation: TICK in lockstep, any other because it uses and moves no part of the pipeline. -/
theorem effect_hidden (i : Instr) {s s' : State} (h : Hidden s s') : Hidden (effect i s) (effect i s') := by
  by_cases htick : ∃ n, i = .tick n
  · obtain ⟨n, rfl⟩ := htick
    exact (hidden_lockstep Config.given).tick n h
  have hi (n : Nat) (hn : i = .tick n) : False := htick ⟨n, hn⟩
  by_cases hm : (effect i s).mode = .transfer
  · obtain ⟨htr, hkept⟩ := effect_in_transfer hi hm
    rcases h with ⟨_, idx, lo, hi', hunread, rfl⟩ | ⟨hne, _⟩
    · have hlatches : effect i (s.withLatches idx lo hi') = (effect i s).withLatches idx lo hi' := by
        rw [withLatches_eq s, effect_withPipelineOf hi, ← hkept]
        rfl
      rw [hlatches, ← hkept]
      exact hidden_of_latches (hunread.congr rfl rfl rfl rfl)
    · exact absurd htr hne
  · obtain ⟨u, rfl⟩ := h.pipeline
    exact .inr ⟨hm, u, effect_withPipelineOf hi s u⟩

/-- Related states answer every operation alike: the same fault, or related next states. -/
theorem runOps_hidden (ops : List Instr) {s s' : State} (h : Hidden s s') :
    observeOutcome (runOps ops s) = observeOutcome (runOps ops s') := by
  induction ops generalizing s s' with
  | nil =>
    obtain ⟨u, rfl⟩ := h.pipeline
    rfl
  | cons i ops ih =>
    have hfault : s'.fault = s.fault := by
      obtain ⟨u, rfl⟩ := h.pipeline
      rfl
    rw [runOps, runOps]
    cases hf : s.fault with
    | none =>
      rw [exec_running hf, exec_running (hfault.trans hf)]
      exact ih (effect_hidden i h)
    | some f => rw [exec_stopped hf, exec_stopped (hfault.trans hf)]

/-- Settles O59: outside Transfer any other pipeline is in the relation. -/
theorem hiddenPipelineIsUnobservable : Obligations.HiddenPipelineIsUnobservable := by
  unfold Obligations.HiddenPipelineIsUnobservable
  intro s u hm ops
  exact runOps_hidden ops (.inr ⟨hm, u, rfl⟩)

end Sys2Proof.Machine
end

section
/-!
The textual form (30_encoding.md R75). A word of hexadecimal or decimal digits has no character that ends a word or a line, so
that a printed line splits into the words it was joined from, and each digit string reads as the number it prints.
-/

namespace Sys2Proof.Machine

/-! ### Digits -/

theorem hexDigit_hexChar : ∀ v < 16, hexDigit (hexChar v) = some v := by decide

/-- The decimal digit of a value below 10, as `decText` prints it. -/
def decChar (v : Nat) : Char := Char.ofNat ('0'.toNat + v)

theorem decDigit_decChar : ∀ v < 10, decDigit (decChar v) = some v := by decide

/-- A string is read from its most significant digit on, so its last digit counts once. -/
theorem digits_append {base acc n v : Nat} {digit : Char → Option Nat} {cs : List Char} {ch : Char}
    (h : digits base digit acc cs = some n) (hd : digit ch = some v) :
    digits base digit acc (cs ++ [ch]) = some (base * n + v) := by
  induction cs generalizing acc with
  | nil =>
    cases h
    simp [digits, hd]
  | cons c cs ih =>
    rw [digits] at h
    rw [List.cons_append, digits]
    cases hc : digit c with
    | none => simp [hc] at h
    | some x =>
      rw [hc] at h
      exact ih h

theorem digits_hexText {len v : Nat} (h : v < 16 ^ len) : digits 16 hexDigit 0 (hexText len v) = some v := by
  induction len generalizing v with
  | zero =>
    obtain rfl : v = 0 := by omega
    rfl
  | succ len ih =>
    have hhigh : v / 16 < 16 ^ len := by rw [pow_succ] at h; omega
    rw [hexText, digits_append (ih hhigh) (hexDigit_hexChar _ (Nat.mod_lt _ (by omega))), Nat.div_add_mod]

theorem hexText_length (len v : Nat) : (hexText len v).length = len := by
  induction len generalizing v with
  | zero => rfl
  | succ len ih => rw [hexText, List.length_append, ih, List.length_singleton]

theorem hexNumber_hexText {len v : Nat} (h : v < 16 ^ len) : hexNumber len (hexText len v) = some v := by
  rw [hexNumber, if_pos (hexText_length len v), digits_hexText h]

theorem decText_succ (len v : Nat) :
    decText (len + 1) v = (if v < 10 then [] else decText len (v / 10)) ++ [decChar (v % 10)] := rfl

/-- A value has fewer digits than the value itself plus one. -/
theorem digits_decText {len v : Nat} (h : v < len) : digits 10 decDigit 0 (decText len v) = some v := by
  induction len generalizing v with
  | zero => omega
  | succ len ih =>
    have hdigit := decDigit_decChar _ (Nat.mod_lt v (by omega : 10 > 0))
    rw [decText_succ]
    split
    · next hlt =>
      rw [digits_append (n := 0) rfl hdigit]
      congr 1
      omega
    · rw [digits_append (ih (by omega)) hdigit, Nat.div_add_mod]

theorem decText_ne_nil (len v : Nat) : decText (len + 1) v ≠ [] := by
  rw [decText_succ]
  simp

theorem decNumber_decText (v : Nat) : decNumber (decText (v + 1) v) = some v := by
  rw [decNumber, if_neg (decText_ne_nil v v), digits_decText (Nat.lt_succ_self v)]

/-! ### Words -/

/-- A character that ends neither a word nor a line. -/
def Plain (ch : Char) : Prop := ch ≠ ' ' ∧ ch ≠ ',' ∧ ch ≠ ';'

theorem plain_hexChar : ∀ v < 16, Plain (hexChar v) := by unfold Plain; decide

theorem plain_decChar : ∀ v < 10, Plain (decChar v) := by unfold Plain; decide

theorem plain_hexText (len v : Nat) : ∀ ch ∈ hexText len v, Plain ch := by
  induction len generalizing v with
  | zero => simp [hexText]
  | succ len ih =>
    intro ch hch
    rw [hexText, List.mem_append, List.mem_singleton] at hch
    rcases hch with hch | rfl
    · exact ih _ ch hch
    · exact plain_hexChar _ (Nat.mod_lt _ (by omega))

theorem plain_decText (len v : Nat) : ∀ ch ∈ decText len v, Plain ch := by
  induction len generalizing v with
  | zero => simp [decText]
  | succ len ih =>
    intro ch hch
    rw [decText_succ, List.mem_append, List.mem_singleton] at hch
    rcases hch with hch | rfl
    · split at hch
      · cases hch
      · exact ih _ ch hch
    · exact plain_decChar _ (Nat.mod_lt _ (by omega))

/-- Plain characters are read into the word at hand. -/
theorem splitWords_plain {w : List Char} (hw : ∀ ch ∈ w, Plain ch) (cur rest : List Char) :
    splitWords cur (w ++ rest) = splitWords (w.reverse ++ cur) rest := by
  induction w generalizing cur with
  | nil => rfl
  | cons ch w ih =>
    obtain ⟨hspace, hcomma, _⟩ := hw ch List.mem_cons_self
    rw [List.cons_append, splitWords]
    simp only [if_neg hspace, if_neg hcomma]
    rw [ih (fun ch' h => hw ch' (List.mem_cons_of_mem _ h)), List.reverse_cons, List.append_assoc, List.singleton_append]

section
variable {w : List Char} (hw : ∀ ch ∈ w, Plain ch) (hne : w ≠ [])
include hw hne

/-- A word ends with the line. -/
theorem splitWords_last : splitWords [] w = [w] := by
  have h := splitWords_plain hw [] []
  rw [List.append_nil, List.append_nil] at h
  rw [h, splitWords, if_neg (by simpa using hne), List.reverse_reverse]

/-- A word ends at a space. -/
theorem splitWords_space (rest : List Char) : splitWords [] (w ++ ' ' :: rest) = w :: splitWords [] rest := by
  rw [splitWords_plain hw, List.append_nil, splitWords]
  simp [hne]

/-- A word ends at a comma, which is a word of its own. -/
theorem splitWords_comma (rest : List Char) :
    splitWords [] (w ++ ',' :: rest) = w :: [','] :: splitWords [] rest := by
  rw [splitWords_plain hw, List.append_nil, splitWords]
  simp [hne]

end

/-- A line without a semicolon has no comment. -/
theorem lineWords_of_no_comment {line : List Char} (h : ∀ ch ∈ line, ch ≠ ';') : lineWords line = splitWords [] line := by
  rw [lineWords, List.takeWhile_eq_self_iff.2 (by simpa using h)]

theorem hexText_ne_nil (len v : Nat) : hexText (len + 1) v ≠ [] := by
  rw [hexText]
  simp

/-! ### Lines -/

theorem makeRequest_toNat (op : BitVec 3) (a : Addr) (n : Nat) : makeRequest op a.toNat n = ⟨op ++ a, n⟩ := by
  rw [makeRequest, BitVec.ofNat_toNat, BitVec.setWidth_eq]

/-- A line whose first word is one letter. -/
theorem lineWords_letter {letter : Char} (hl : Plain letter) {rest : List Char} (hr : ∀ ch ∈ rest, ch ≠ ';') :
    lineWords (letter :: ' ' :: rest) = [letter] :: splitWords [] rest := by
  have hletter : ∀ ch ∈ [letter], Plain ch := by simpa using hl
  have hline : ∀ ch ∈ letter :: ' ' :: rest, ch ≠ ';' := by
    intro ch hch
    rcases List.mem_cons.1 hch with rfl | hch
    · exact hl.2.2
    rcases List.mem_cons.1 hch with rfl | hch
    · decide
    · exact hr ch hch
  exact (lineWords_of_no_comment hline).trans (splitWords_space hletter (List.cons_ne_nil _ _) rest)

/-- The same where one word of digits ends the line. -/
theorem lineWords_letter_word {letter : Char} (hl : Plain letter) {w : List Char} (hw : ∀ ch ∈ w, Plain ch) (hne : w ≠ []) :
    lineWords (letter :: ' ' :: w) = [[letter], w] := by
  rw [lineWords_letter hl fun ch hch => (hw ch hch).2.2, splitWords_last hw hne]

theorem plain_letters : Plain 'R' ∧ Plain 'W' ∧ Plain 'T' := by unfold Plain; decide

theorem parseLine_read (a : Addr) : parseLine ('R' :: ' ' :: hexText 4 a.toNat) = some ⟨0b000#3 ++ a, 0⟩ := by
  have hnum : hexNumber 4 (hexText 4 a.toNat) = some a.toNat := hexNumber_hexText a.isLt
  rw [parseLine, lineWords_letter_word plain_letters.1 (plain_hexText 4 _) (hexText_ne_nil 3 _)]
  simp [parseWords, hnum, makeRequest_toNat]

theorem parseLine_tick (n : Nat) : parseLine ('T' :: ' ' :: decText (n + 1) n) = some ⟨0b010#3 ++ 0#16, n⟩ := by
  rw [parseLine, lineWords_letter_word plain_letters.2.2 (plain_decText (n + 1) n) (decText_ne_nil n n)]
  simp [parseWords, decNumber_decText, makeRequest]

theorem parseLine_write (a : Addr) {d : Nat} (hd : d < 256) :
    parseLine ('W' :: ' ' :: (hexText 4 a.toNat ++ ',' :: ' ' :: hexText 2 d)) = some ⟨0b001#3 ++ a, d⟩ := by
  have haddr : hexNumber 4 (hexText 4 a.toNat) = some a.toNat := hexNumber_hexText a.isLt
  have hbyte : hexNumber 2 (hexText 2 d) = some d := hexNumber_hexText hd
  have hrest : ∀ ch ∈ hexText 4 a.toNat ++ ',' :: ' ' :: hexText 2 d, ch ≠ ';' := by
    intro ch hch
    rcases List.mem_append.1 hch with hch | hch
    · exact (plain_hexText _ _ ch hch).2.2
    rcases List.mem_cons.1 hch with rfl | hch
    · decide
    rcases List.mem_cons.1 hch with rfl | hch
    · decide
    · exact (plain_hexText _ _ ch hch).2.2
  have hspace : splitWords [] (' ' :: hexText 2 d) = splitWords [] (hexText 2 d) := rfl
  rw [parseLine, lineWords_letter plain_letters.2.1 hrest, splitWords_comma (plain_hexText 4 _) (hexText_ne_nil 3 _), hspace,
    splitWords_last (plain_hexText 2 d) (hexText_ne_nil 1 d)]
  simp [parseWords, haddr, hbyte, makeRequest_toNat]

/-! ### The obligation -/

theorem operand_of_read {i : Instr} {t : Target} (h : i.mnemonic = .read t) : i.operand = 0 := by
  cases i <;> cases h <;> rfl

theorem operand_of_write {i : Instr} {t : Target} (h : i.mnemonic = .write t) : i.operand < 256 := by
  cases i <;> cases h <;> exact BitVec.isLt _

/-- Settles O6: kind by kind, the line of the operation is the one just parsed; the lines of ACK_VBLANK, ACK_STAT and SET_DMA
have no operand but a bit, and are parsed as they stand. -/
theorem textSpellsTheRequest : Obligations.TextSpellsTheRequest := by
  unfold Obligations.TextSpellsTheRequest
  intro i _
  cases hm : i.mnemonic with
  | read t =>
    simp only [textOf, encode, hm, operand_of_read hm]
    exact parseLine_read _
  | write t =>
    simp only [textOf, encode, hm, List.append_assoc]
    exact parseLine_write _ (operand_of_write hm)
  | tick =>
    simp only [textOf, encode, hm]
    exact parseLine_tick i.operand
  | ackVblank =>
    obtain rfl : i = .ackVblank := by
      cases i <;> cases hm
      rfl
    rfl
  | ackStat =>
    obtain rfl : i = .ackStat := by
      cases i <;> cases hm
      rfl
    rfl
  | setDma =>
    obtain ⟨b, rfl⟩ : ∃ b, i = .setDma b := by
      cases i <;> cases hm
      exact ⟨_, rfl⟩
    cases b <;> rfl

end Sys2Proof.Machine
end
